-- ==== Sys2Proof/Word.lean ====
section
/-! DEFINITION. The two widths of the core: u8 and u16 (00_scope.md R9). Both wrap (10_state.md R22, R25). -/

namespace Sys2Proof

/-- An 8-bit value, u8 of 00_scope.md R9. -/
abbrev Byte := BitVec 8

/-- A 16-bit value, u16 of 00_scope.md R9: an address, SP, PC or a register pair. -/
abbrev Word := BitVec 16

end Sys2Proof
end

