-- ==== Sys2Proof/Config.lean ====
section
/-! DEFINITION. The parameters the spec leaves to the machine's creator (00_scope.md R7). -/

namespace Sys2Proof

/-- RET_CC_TAKEN_COST (00_scope.md R7, 43_control.md R219, D5): the cost of a taken `ret cc`, an argument of the model. It is
held in State (log 3), so that a statement holds for every value of it. -/
structure Config where
  retCcTakenCost : Nat
deriving DecidableEq, Repr

/-- The spec's default: "the spec's default is 4" (00_scope.md R7, D5). -/
def Config.default : Config := { retCcTakenCost := 4 }

/-- `read_byte(addr)` of a collaborator's BUS (00_scope.md R7, D24, D28), from the state the collaborator is in: the byte
returned, and the state the read leaves it in. A free value (log 6): the accessors are the collaborator's, so they have no body
here and every claim holds for all of them. The collaborator's state is a number; log 6 says why that covers any collaborator whose
states can be numbered. -/
opaque Config.collaboratorRead : Nat → Word → Byte × Nat

/-- `write_byte(addr, v)` of a collaborator's BUS (00_scope.md R7, D24, D28): the state the write leaves the collaborator in. A
free value (log 6). -/
opaque Config.collaboratorWrite : Nat → Word → Byte → Nat

/-- RESET_STATE (10_state.md R38, D23): the registers, flags and IME at creation. -/
structure ResetState where
  a : Byte
  b : Byte
  c : Byte
  d : Byte
  e : Byte
  h : Byte
  l : Byte
  sp : Word
  pc : Word
  zf : Bool
  cf : Bool
  ime : Bool
deriving DecidableEq, Repr

/-- DESIGN CHOICE, unsafe (log 1): the spec gives no value of RESET_STATE; every register, flag and IME is 0 here, the start
state of the programs of 95_test_vectors.md section 3. -/
def ResetState.zero : ResetState :=
  { a := 0, b := 0, c := 0, d := 0, e := 0, h := 0, l := 0, sp := 0, pc := 0, zf := false, cf := false, ime := false }

end Sys2Proof
end

