-- ==== Sys2Proof/Syntax.lean ====
section
/-! DEFINITION. The instructions of the gbc4lua Game Boy CPU core: one constructor of `Instr` for each row of
spec/opcode_table.json (30_encoding.md R90, R91, R92), the operand codes of R82 to R88, and the families of constructors
that one rule covers, as functions of those codes. -/

namespace Sys2Proof

/-- The seven 8-bit registers (10_state.md R21), named as the register code of 30_encoding.md R82 names them. -/
inductive R8 where
  | b | c | d | e | h | l | a
deriving DecidableEq, Repr

/-- The register code r of 30_encoding.md R82. Code 6 names the memory operand and is no register. -/
def R8.code : R8 → Nat
  | .b => 0
  | .c => 1
  | .d => 2
  | .e => 3
  | .h => 4
  | .l => 5
  | .a => 7

/-- The 16-bit registers of the code ss (30_encoding.md R83). -/
inductive R16 where
  | bc | de | hl | sp
deriving DecidableEq, Repr

/-- The code ss of 30_encoding.md R83. -/
def R16.code : R16 → Nat
  | .bc => 0
  | .de => 1
  | .hl => 2
  | .sp => 3

/-- The three register pairs (10_state.md R23). -/
inductive Pair where
  | bc | de | hl
deriving DecidableEq, Repr

/-- The code qq of 30_encoding.md R84, for the pairs made of two general registers (AF has rules of its own). -/
def Pair.code : Pair → Nat
  | .bc => 0
  | .de => 1
  | .hl => 2

/-- The conditions of 30_encoding.md R85. -/
inductive Cond where
  | nz | z | nc | c
deriving DecidableEq, Repr

/-- The condition code cc of 30_encoding.md R85. -/
def Cond.code : Cond → Nat
  | .nz => 0
  | .z => 1
  | .nc => 2
  | .c => 3

/-- The eight accumulator operations of 30_encoding.md R86. -/
inductive AluOp where
  | add | adc | sub | sbc | and | xor | or | cp
deriving DecidableEq, Repr

/-- The operation code of 30_encoding.md R86. -/
def AluOp.code : AluOp → Nat
  | .add => 0
  | .adc => 1
  | .sub => 2
  | .sbc => 3
  | .and => 4
  | .xor => 5
  | .or => 6
  | .cp => 7

/-- The eight rotates and shifts of the CB table (30_encoding.md R87, 45_rotate_cb.md R264). -/
inductive ShiftOp where
  | rlc | rrc | rl | rr | sla | sra | swap | srl
deriving DecidableEq, Repr

/-- The field y of a rotate or shift (45_rotate_cb.md R264). -/
def ShiftOp.code : ShiftOp → Nat
  | .rlc => 0
  | .rrc => 1
  | .rl => 2
  | .rr => 3
  | .sla => 4
  | .sra => 5
  | .swap => 6
  | .srl => 7

/-- The instructions: first those with an operand byte or word, then those without, each group in the table's order (Lean's
runtime limits the index of a constructor that has a field; the order means nothing). Each constructor's comment gives its
opcode bytes, its spelling (R96) and the rule of spec/ that gives its meaning. -/
inductive Instr where
  /-- 0x01 `ld bc, n16` (R127) -/
  | ldBcN16 (n : Word)
  /-- 0x06 `ld b, n8` (R111) -/
  | ldBN8 (n : Byte)
  /-- 0x08 `ld [n16], sp` (R128) -/
  | ldAtN16Sp (n : Word)
  /-- 0x0E `ld c, n8` (R111) -/
  | ldCN8 (n : Byte)
  /-- 0x10 `stop` (R242) -/
  | stop (x : Byte)
  /-- 0x11 `ld de, n16` (R127) -/
  | ldDeN16 (n : Word)
  /-- 0x16 `ld d, n8` (R111) -/
  | ldDN8 (n : Byte)
  /-- 0x18 `jr e8` (R211) -/
  | jrE8 (e : Byte)
  /-- 0x1E `ld e, n8` (R111) -/
  | ldEN8 (n : Byte)
  /-- 0x20 `jr nz, e8` (R212) -/
  | jrNzE8 (e : Byte)
  /-- 0x21 `ld hl, n16` (R127) -/
  | ldHlN16 (n : Word)
  /-- 0x26 `ld h, n8` (R111) -/
  | ldHN8 (n : Byte)
  /-- 0x28 `jr z, e8` (R212) -/
  | jrZE8 (e : Byte)
  /-- 0x2E `ld l, n8` (R111) -/
  | ldLN8 (n : Byte)
  /-- 0x30 `jr nc, e8` (R212) -/
  | jrNcE8 (e : Byte)
  /-- 0x31 `ld sp, n16` (R127) -/
  | ldSpN16 (n : Word)
  /-- 0x36 `ld [hl], n8` (R114) -/
  | ldAtHlN8 (n : Byte)
  /-- 0x38 `jr c, e8` (R212) -/
  | jrCE8 (e : Byte)
  /-- 0x3E `ld a, n8` (R111) -/
  | ldAN8 (n : Byte)
  /-- 0xC2 `jp nz, n16` (R214) -/
  | jpNzN16 (n : Word)
  /-- 0xC3 `jp n16` (R213) -/
  | jpN16 (n : Word)
  /-- 0xC4 `call nz, n16` (R217) -/
  | callNzN16 (n : Word)
  /-- 0xC6 `add a, n8` (R158) -/
  | addAN8 (n : Byte)
  /-- 0xCA `jp z, n16` (R214) -/
  | jpZN16 (n : Word)
  /-- 0xCC `call z, n16` (R217) -/
  | callZN16 (n : Word)
  /-- 0xCD `call n16` (R216) -/
  | callN16 (n : Word)
  /-- 0xCE `adc a, n8` (R161) -/
  | adcAN8 (n : Byte)
  /-- 0xD2 `jp nc, n16` (R214) -/
  | jpNcN16 (n : Word)
  /-- 0xD4 `call nc, n16` (R217) -/
  | callNcN16 (n : Word)
  /-- 0xD6 `sub a, n8` (R164) -/
  | subAN8 (n : Byte)
  /-- 0xDA `jp c, n16` (R214) -/
  | jpCN16 (n : Word)
  /-- 0xDC `call c, n16` (R217) -/
  | callCN16 (n : Word)
  /-- 0xDE `sbc a, n8` (R167) -/
  | sbcAN8 (n : Byte)
  /-- 0xE0 `ldh [n8], a` (R120) -/
  | ldhAtN8A (n : Byte)
  /-- 0xE6 `and a, n8` (R170) -/
  | andAN8 (n : Byte)
  /-- 0xE8 `add sp, e8` (R194) -/
  | addSpE8 (e : Byte)
  /-- 0xEA `ld [n16], a` (R118) -/
  | ldAtN16A (n : Word)
  /-- 0xEE `xor a, n8` (R173) -/
  | xorAN8 (n : Byte)
  /-- 0xF0 `ldh a, [n8]` (R119) -/
  | ldhAAtN8 (n : Byte)
  /-- 0xF6 `or a, n8` (R176) -/
  | orAN8 (n : Byte)
  /-- 0xF8 `ld hl, sp+e8` (R195) -/
  | ldHlSpE8 (e : Byte)
  /-- 0xFA `ld a, [n16]` (R117) -/
  | ldAAtN16 (n : Word)
  /-- 0xFE `cp a, n8` (R179) -/
  | cpAN8 (n : Byte)
  /-- 0x00 `nop` (R240) -/
  | nop
  /-- 0x02 `ld [bc], a` (R116) -/
  | ldAtBcA
  /-- 0x03 `inc bc` (R191) -/
  | incBc
  /-- 0x04 `inc b` (R152) -/
  | incB
  /-- 0x05 `dec b` (R154) -/
  | decB
  /-- 0x07 `rlca` (R260) -/
  | rlca
  /-- 0x09 `add hl, bc` (R193) -/
  | addHlBc
  /-- 0x0A `ld a, [bc]` (R115) -/
  | ldAAtBc
  /-- 0x0B `dec bc` (R192) -/
  | decBc
  /-- 0x0C `inc c` (R152) -/
  | incC
  /-- 0x0D `dec c` (R154) -/
  | decC
  /-- 0x0F `rrca` (R261) -/
  | rrca
  /-- 0x12 `ld [de], a` (R116) -/
  | ldAtDeA
  /-- 0x13 `inc de` (R191) -/
  | incDe
  /-- 0x14 `inc d` (R152) -/
  | incD
  /-- 0x15 `dec d` (R154) -/
  | decD
  /-- 0x17 `rla` (R262) -/
  | rla
  /-- 0x19 `add hl, de` (R193) -/
  | addHlDe
  /-- 0x1A `ld a, [de]` (R115) -/
  | ldAAtDe
  /-- 0x1B `dec de` (R192) -/
  | decDe
  /-- 0x1C `inc e` (R152) -/
  | incE
  /-- 0x1D `dec e` (R154) -/
  | decE
  /-- 0x1F `rra` (R263) -/
  | rra
  /-- 0x22 `ld [hl+], a` (R123) -/
  | ldAtHlIncA
  /-- 0x23 `inc hl` (R191) -/
  | incHl
  /-- 0x24 `inc h` (R152) -/
  | incH
  /-- 0x25 `dec h` (R154) -/
  | decH
  /-- 0x27 `daa` (R180) -/
  | daa
  /-- 0x29 `add hl, hl` (R193) -/
  | addHlHl
  /-- 0x2A `ld a, [hl+]` (R125) -/
  | ldAAtHlInc
  /-- 0x2B `dec hl` (R192) -/
  | decHl
  /-- 0x2C `inc l` (R152) -/
  | incL
  /-- 0x2D `dec l` (R154) -/
  | decL
  /-- 0x2F `cpl` (R181) -/
  | cpl
  /-- 0x32 `ld [hl-], a` (R124) -/
  | ldAtHlDecA
  /-- 0x33 `inc sp` (R191) -/
  | incSp
  /-- 0x34 `inc [hl]` (R153) -/
  | incAtHl
  /-- 0x35 `dec [hl]` (R155) -/
  | decAtHl
  /-- 0x37 `scf` (R182) -/
  | scf
  /-- 0x39 `add hl, sp` (R193) -/
  | addHlSp
  /-- 0x3A `ld a, [hl-]` (R126) -/
  | ldAAtHlDec
  /-- 0x3B `dec sp` (R192) -/
  | decSp
  /-- 0x3C `inc a` (R152) -/
  | incA
  /-- 0x3D `dec a` (R154) -/
  | decA
  /-- 0x3F `ccf` (R183) -/
  | ccf
  /-- 0x40 `ld b, b` (R110) -/
  | ldBB
  /-- 0x41 `ld b, c` (R110) -/
  | ldBC
  /-- 0x42 `ld b, d` (R110) -/
  | ldBD
  /-- 0x43 `ld b, e` (R110) -/
  | ldBE
  /-- 0x44 `ld b, h` (R110) -/
  | ldBH
  /-- 0x45 `ld b, l` (R110) -/
  | ldBL
  /-- 0x46 `ld b, [hl]` (R112) -/
  | ldBAtHl
  /-- 0x47 `ld b, a` (R110) -/
  | ldBA
  /-- 0x48 `ld c, b` (R110) -/
  | ldCB
  /-- 0x49 `ld c, c` (R110) -/
  | ldCC
  /-- 0x4A `ld c, d` (R110) -/
  | ldCD
  /-- 0x4B `ld c, e` (R110) -/
  | ldCE
  /-- 0x4C `ld c, h` (R110) -/
  | ldCH
  /-- 0x4D `ld c, l` (R110) -/
  | ldCL
  /-- 0x4E `ld c, [hl]` (R112) -/
  | ldCAtHl
  /-- 0x4F `ld c, a` (R110) -/
  | ldCA
  /-- 0x50 `ld d, b` (R110) -/
  | ldDB
  /-- 0x51 `ld d, c` (R110) -/
  | ldDC
  /-- 0x52 `ld d, d` (R110) -/
  | ldDD
  /-- 0x53 `ld d, e` (R110) -/
  | ldDE
  /-- 0x54 `ld d, h` (R110) -/
  | ldDH
  /-- 0x55 `ld d, l` (R110) -/
  | ldDL
  /-- 0x56 `ld d, [hl]` (R112) -/
  | ldDAtHl
  /-- 0x57 `ld d, a` (R110) -/
  | ldDA
  /-- 0x58 `ld e, b` (R110) -/
  | ldEB
  /-- 0x59 `ld e, c` (R110) -/
  | ldEC
  /-- 0x5A `ld e, d` (R110) -/
  | ldED
  /-- 0x5B `ld e, e` (R110) -/
  | ldEE
  /-- 0x5C `ld e, h` (R110) -/
  | ldEH
  /-- 0x5D `ld e, l` (R110) -/
  | ldEL
  /-- 0x5E `ld e, [hl]` (R112) -/
  | ldEAtHl
  /-- 0x5F `ld e, a` (R110) -/
  | ldEA
  /-- 0x60 `ld h, b` (R110) -/
  | ldHB
  /-- 0x61 `ld h, c` (R110) -/
  | ldHC
  /-- 0x62 `ld h, d` (R110) -/
  | ldHD
  /-- 0x63 `ld h, e` (R110) -/
  | ldHE
  /-- 0x64 `ld h, h` (R110) -/
  | ldHH
  /-- 0x65 `ld h, l` (R110) -/
  | ldHL
  /-- 0x66 `ld h, [hl]` (R112) -/
  | ldHAtHl
  /-- 0x67 `ld h, a` (R110) -/
  | ldHA
  /-- 0x68 `ld l, b` (R110) -/
  | ldLB
  /-- 0x69 `ld l, c` (R110) -/
  | ldLC
  /-- 0x6A `ld l, d` (R110) -/
  | ldLD
  /-- 0x6B `ld l, e` (R110) -/
  | ldLE
  /-- 0x6C `ld l, h` (R110) -/
  | ldLH
  /-- 0x6D `ld l, l` (R110) -/
  | ldLL
  /-- 0x6E `ld l, [hl]` (R112) -/
  | ldLAtHl
  /-- 0x6F `ld l, a` (R110) -/
  | ldLA
  /-- 0x70 `ld [hl], b` (R113) -/
  | ldAtHlB
  /-- 0x71 `ld [hl], c` (R113) -/
  | ldAtHlC
  /-- 0x72 `ld [hl], d` (R113) -/
  | ldAtHlD
  /-- 0x73 `ld [hl], e` (R113) -/
  | ldAtHlE
  /-- 0x74 `ld [hl], h` (R113) -/
  | ldAtHlH
  /-- 0x75 `ld [hl], l` (R113) -/
  | ldAtHlL
  /-- 0x76 `halt` (R241) -/
  | halt
  /-- 0x77 `ld [hl], a` (R113) -/
  | ldAtHlA
  /-- 0x78 `ld a, b` (R110) -/
  | ldAB
  /-- 0x79 `ld a, c` (R110) -/
  | ldAC
  /-- 0x7A `ld a, d` (R110) -/
  | ldAD
  /-- 0x7B `ld a, e` (R110) -/
  | ldAE
  /-- 0x7C `ld a, h` (R110) -/
  | ldAH
  /-- 0x7D `ld a, l` (R110) -/
  | ldAL
  /-- 0x7E `ld a, [hl]` (R112) -/
  | ldAAtHl
  /-- 0x7F `ld a, a` (R110) -/
  | ldAA
  /-- 0x80 `add a, b` (R156) -/
  | addAB
  /-- 0x81 `add a, c` (R156) -/
  | addAC
  /-- 0x82 `add a, d` (R156) -/
  | addAD
  /-- 0x83 `add a, e` (R156) -/
  | addAE
  /-- 0x84 `add a, h` (R156) -/
  | addAH
  /-- 0x85 `add a, l` (R156) -/
  | addAL
  /-- 0x86 `add a, [hl]` (R157) -/
  | addAAtHl
  /-- 0x87 `add a, a` (R156) -/
  | addAA
  /-- 0x88 `adc a, b` (R159) -/
  | adcAB
  /-- 0x89 `adc a, c` (R159) -/
  | adcAC
  /-- 0x8A `adc a, d` (R159) -/
  | adcAD
  /-- 0x8B `adc a, e` (R159) -/
  | adcAE
  /-- 0x8C `adc a, h` (R159) -/
  | adcAH
  /-- 0x8D `adc a, l` (R159) -/
  | adcAL
  /-- 0x8E `adc a, [hl]` (R160) -/
  | adcAAtHl
  /-- 0x8F `adc a, a` (R159) -/
  | adcAA
  /-- 0x90 `sub a, b` (R162) -/
  | subAB
  /-- 0x91 `sub a, c` (R162) -/
  | subAC
  /-- 0x92 `sub a, d` (R162) -/
  | subAD
  /-- 0x93 `sub a, e` (R162) -/
  | subAE
  /-- 0x94 `sub a, h` (R162) -/
  | subAH
  /-- 0x95 `sub a, l` (R162) -/
  | subAL
  /-- 0x96 `sub a, [hl]` (R163) -/
  | subAAtHl
  /-- 0x97 `sub a, a` (R162) -/
  | subAA
  /-- 0x98 `sbc a, b` (R165) -/
  | sbcAB
  /-- 0x99 `sbc a, c` (R165) -/
  | sbcAC
  /-- 0x9A `sbc a, d` (R165) -/
  | sbcAD
  /-- 0x9B `sbc a, e` (R165) -/
  | sbcAE
  /-- 0x9C `sbc a, h` (R165) -/
  | sbcAH
  /-- 0x9D `sbc a, l` (R165) -/
  | sbcAL
  /-- 0x9E `sbc a, [hl]` (R166) -/
  | sbcAAtHl
  /-- 0x9F `sbc a, a` (R165) -/
  | sbcAA
  /-- 0xA0 `and a, b` (R168) -/
  | andAB
  /-- 0xA1 `and a, c` (R168) -/
  | andAC
  /-- 0xA2 `and a, d` (R168) -/
  | andAD
  /-- 0xA3 `and a, e` (R168) -/
  | andAE
  /-- 0xA4 `and a, h` (R168) -/
  | andAH
  /-- 0xA5 `and a, l` (R168) -/
  | andAL
  /-- 0xA6 `and a, [hl]` (R169) -/
  | andAAtHl
  /-- 0xA7 `and a, a` (R168) -/
  | andAA
  /-- 0xA8 `xor a, b` (R171) -/
  | xorAB
  /-- 0xA9 `xor a, c` (R171) -/
  | xorAC
  /-- 0xAA `xor a, d` (R171) -/
  | xorAD
  /-- 0xAB `xor a, e` (R171) -/
  | xorAE
  /-- 0xAC `xor a, h` (R171) -/
  | xorAH
  /-- 0xAD `xor a, l` (R171) -/
  | xorAL
  /-- 0xAE `xor a, [hl]` (R172) -/
  | xorAAtHl
  /-- 0xAF `xor a, a` (R171) -/
  | xorAA
  /-- 0xB0 `or a, b` (R174) -/
  | orAB
  /-- 0xB1 `or a, c` (R174) -/
  | orAC
  /-- 0xB2 `or a, d` (R174) -/
  | orAD
  /-- 0xB3 `or a, e` (R174) -/
  | orAE
  /-- 0xB4 `or a, h` (R174) -/
  | orAH
  /-- 0xB5 `or a, l` (R174) -/
  | orAL
  /-- 0xB6 `or a, [hl]` (R175) -/
  | orAAtHl
  /-- 0xB7 `or a, a` (R174) -/
  | orAA
  /-- 0xB8 `cp a, b` (R177) -/
  | cpAB
  /-- 0xB9 `cp a, c` (R177) -/
  | cpAC
  /-- 0xBA `cp a, d` (R177) -/
  | cpAD
  /-- 0xBB `cp a, e` (R177) -/
  | cpAE
  /-- 0xBC `cp a, h` (R177) -/
  | cpAH
  /-- 0xBD `cp a, l` (R177) -/
  | cpAL
  /-- 0xBE `cp a, [hl]` (R178) -/
  | cpAAtHl
  /-- 0xBF `cp a, a` (R177) -/
  | cpAA
  /-- 0xC0 `ret nz` (R219) -/
  | retNz
  /-- 0xC1 `pop bc` (R134) -/
  | popBc
  /-- 0xC5 `push bc` (R132) -/
  | pushBc
  /-- 0xC7 `rst $00` (R221) -/
  | rst00
  /-- 0xC8 `ret z` (R219) -/
  | retZ
  /-- 0xC9 `ret` (R218) -/
  | ret
  /-- 0xCF `rst $08` (R221) -/
  | rst08
  /-- 0xD0 `ret nc` (R219) -/
  | retNc
  /-- 0xD1 `pop de` (R134) -/
  | popDe
  /-- 0xD3 `(unassigned)` (R245) -/
  | unassignedD3
  /-- 0xD5 `push de` (R132) -/
  | pushDe
  /-- 0xD7 `rst $10` (R221) -/
  | rst10
  /-- 0xD8 `ret c` (R219) -/
  | retC
  /-- 0xD9 `reti` (R220) -/
  | reti
  /-- 0xDB `(unassigned)` (R245) -/
  | unassignedDB
  /-- 0xDD `(unassigned)` (R245) -/
  | unassignedDD
  /-- 0xDF `rst $18` (R221) -/
  | rst18
  /-- 0xE1 `pop hl` (R134) -/
  | popHl
  /-- 0xE2 `ld [c], a` (R122) -/
  | ldAtCA
  /-- 0xE3 `(unassigned)` (R245) -/
  | unassignedE3
  /-- 0xE4 `(unassigned)` (R245) -/
  | unassignedE4
  /-- 0xE5 `push hl` (R132) -/
  | pushHl
  /-- 0xE7 `rst $20` (R221) -/
  | rst20
  /-- 0xE9 `jp hl` (R215) -/
  | jpHl
  /-- 0xEB `(unassigned)` (R245) -/
  | unassignedEB
  /-- 0xEC `(unassigned)` (R245) -/
  | unassignedEC
  /-- 0xED `(unassigned)` (R245) -/
  | unassignedED
  /-- 0xEF `rst $28` (R221) -/
  | rst28
  /-- 0xF1 `pop af` (R135) -/
  | popAf
  /-- 0xF2 `ld a, [c]` (R121) -/
  | ldAAtC
  /-- 0xF3 `di` (R243) -/
  | di
  /-- 0xF4 `(unassigned)` (R245) -/
  | unassignedF4
  /-- 0xF5 `push af` (R133) -/
  | pushAf
  /-- 0xF7 `rst $30` (R221) -/
  | rst30
  /-- 0xF9 `ld sp, hl` (R129) -/
  | ldSpHl
  /-- 0xFB `ei` (R244) -/
  | ei
  /-- 0xFC `(unassigned)` (R245) -/
  | unassignedFC
  /-- 0xFD `(unassigned)` (R245) -/
  | unassignedFD
  /-- 0xFF `rst $38` (R221) -/
  | rst38
  /-- 0xCB 0x00 `rlc b` (R265) -/
  | rlcB
  /-- 0xCB 0x01 `rlc c` (R265) -/
  | rlcC
  /-- 0xCB 0x02 `rlc d` (R265) -/
  | rlcD
  /-- 0xCB 0x03 `rlc e` (R265) -/
  | rlcE
  /-- 0xCB 0x04 `rlc h` (R265) -/
  | rlcH
  /-- 0xCB 0x05 `rlc l` (R265) -/
  | rlcL
  /-- 0xCB 0x06 `rlc [hl]` (R266) -/
  | rlcAtHl
  /-- 0xCB 0x07 `rlc a` (R265) -/
  | rlcA
  /-- 0xCB 0x08 `rrc b` (R267) -/
  | rrcB
  /-- 0xCB 0x09 `rrc c` (R267) -/
  | rrcC
  /-- 0xCB 0x0A `rrc d` (R267) -/
  | rrcD
  /-- 0xCB 0x0B `rrc e` (R267) -/
  | rrcE
  /-- 0xCB 0x0C `rrc h` (R267) -/
  | rrcH
  /-- 0xCB 0x0D `rrc l` (R267) -/
  | rrcL
  /-- 0xCB 0x0E `rrc [hl]` (R268) -/
  | rrcAtHl
  /-- 0xCB 0x0F `rrc a` (R267) -/
  | rrcA
  /-- 0xCB 0x10 `rl b` (R269) -/
  | rlB
  /-- 0xCB 0x11 `rl c` (R269) -/
  | rlC
  /-- 0xCB 0x12 `rl d` (R269) -/
  | rlD
  /-- 0xCB 0x13 `rl e` (R269) -/
  | rlE
  /-- 0xCB 0x14 `rl h` (R269) -/
  | rlH
  /-- 0xCB 0x15 `rl l` (R269) -/
  | rlL
  /-- 0xCB 0x16 `rl [hl]` (R270) -/
  | rlAtHl
  /-- 0xCB 0x17 `rl a` (R269) -/
  | rlA
  /-- 0xCB 0x18 `rr b` (R271) -/
  | rrB
  /-- 0xCB 0x19 `rr c` (R271) -/
  | rrC
  /-- 0xCB 0x1A `rr d` (R271) -/
  | rrD
  /-- 0xCB 0x1B `rr e` (R271) -/
  | rrE
  /-- 0xCB 0x1C `rr h` (R271) -/
  | rrH
  /-- 0xCB 0x1D `rr l` (R271) -/
  | rrL
  /-- 0xCB 0x1E `rr [hl]` (R272) -/
  | rrAtHl
  /-- 0xCB 0x1F `rr a` (R271) -/
  | rrA
  /-- 0xCB 0x20 `sla b` (R273) -/
  | slaB
  /-- 0xCB 0x21 `sla c` (R273) -/
  | slaC
  /-- 0xCB 0x22 `sla d` (R273) -/
  | slaD
  /-- 0xCB 0x23 `sla e` (R273) -/
  | slaE
  /-- 0xCB 0x24 `sla h` (R273) -/
  | slaH
  /-- 0xCB 0x25 `sla l` (R273) -/
  | slaL
  /-- 0xCB 0x26 `sla [hl]` (R274) -/
  | slaAtHl
  /-- 0xCB 0x27 `sla a` (R273) -/
  | slaA
  /-- 0xCB 0x28 `sra b` (R275) -/
  | sraB
  /-- 0xCB 0x29 `sra c` (R275) -/
  | sraC
  /-- 0xCB 0x2A `sra d` (R275) -/
  | sraD
  /-- 0xCB 0x2B `sra e` (R275) -/
  | sraE
  /-- 0xCB 0x2C `sra h` (R275) -/
  | sraH
  /-- 0xCB 0x2D `sra l` (R275) -/
  | sraL
  /-- 0xCB 0x2E `sra [hl]` (R276) -/
  | sraAtHl
  /-- 0xCB 0x2F `sra a` (R275) -/
  | sraA
  /-- 0xCB 0x30 `swap b` (R277) -/
  | swapB
  /-- 0xCB 0x31 `swap c` (R277) -/
  | swapC
  /-- 0xCB 0x32 `swap d` (R277) -/
  | swapD
  /-- 0xCB 0x33 `swap e` (R277) -/
  | swapE
  /-- 0xCB 0x34 `swap h` (R277) -/
  | swapH
  /-- 0xCB 0x35 `swap l` (R277) -/
  | swapL
  /-- 0xCB 0x36 `swap [hl]` (R278) -/
  | swapAtHl
  /-- 0xCB 0x37 `swap a` (R277) -/
  | swapA
  /-- 0xCB 0x38 `srl b` (R279) -/
  | srlB
  /-- 0xCB 0x39 `srl c` (R279) -/
  | srlC
  /-- 0xCB 0x3A `srl d` (R279) -/
  | srlD
  /-- 0xCB 0x3B `srl e` (R279) -/
  | srlE
  /-- 0xCB 0x3C `srl h` (R279) -/
  | srlH
  /-- 0xCB 0x3D `srl l` (R279) -/
  | srlL
  /-- 0xCB 0x3E `srl [hl]` (R280) -/
  | srlAtHl
  /-- 0xCB 0x3F `srl a` (R279) -/
  | srlA
  /-- 0xCB 0x40 `bit 0, b` (R281) -/
  | bit0B
  /-- 0xCB 0x41 `bit 0, c` (R281) -/
  | bit0C
  /-- 0xCB 0x42 `bit 0, d` (R281) -/
  | bit0D
  /-- 0xCB 0x43 `bit 0, e` (R281) -/
  | bit0E
  /-- 0xCB 0x44 `bit 0, h` (R281) -/
  | bit0H
  /-- 0xCB 0x45 `bit 0, l` (R281) -/
  | bit0L
  /-- 0xCB 0x46 `bit 0, [hl]` (R282) -/
  | bit0AtHl
  /-- 0xCB 0x47 `bit 0, a` (R281) -/
  | bit0A
  /-- 0xCB 0x48 `bit 1, b` (R281) -/
  | bit1B
  /-- 0xCB 0x49 `bit 1, c` (R281) -/
  | bit1C
  /-- 0xCB 0x4A `bit 1, d` (R281) -/
  | bit1D
  /-- 0xCB 0x4B `bit 1, e` (R281) -/
  | bit1E
  /-- 0xCB 0x4C `bit 1, h` (R281) -/
  | bit1H
  /-- 0xCB 0x4D `bit 1, l` (R281) -/
  | bit1L
  /-- 0xCB 0x4E `bit 1, [hl]` (R282) -/
  | bit1AtHl
  /-- 0xCB 0x4F `bit 1, a` (R281) -/
  | bit1A
  /-- 0xCB 0x50 `bit 2, b` (R281) -/
  | bit2B
  /-- 0xCB 0x51 `bit 2, c` (R281) -/
  | bit2C
  /-- 0xCB 0x52 `bit 2, d` (R281) -/
  | bit2D
  /-- 0xCB 0x53 `bit 2, e` (R281) -/
  | bit2E
  /-- 0xCB 0x54 `bit 2, h` (R281) -/
  | bit2H
  /-- 0xCB 0x55 `bit 2, l` (R281) -/
  | bit2L
  /-- 0xCB 0x56 `bit 2, [hl]` (R282) -/
  | bit2AtHl
  /-- 0xCB 0x57 `bit 2, a` (R281) -/
  | bit2A
  /-- 0xCB 0x58 `bit 3, b` (R281) -/
  | bit3B
  /-- 0xCB 0x59 `bit 3, c` (R281) -/
  | bit3C
  /-- 0xCB 0x5A `bit 3, d` (R281) -/
  | bit3D
  /-- 0xCB 0x5B `bit 3, e` (R281) -/
  | bit3E
  /-- 0xCB 0x5C `bit 3, h` (R281) -/
  | bit3H
  /-- 0xCB 0x5D `bit 3, l` (R281) -/
  | bit3L
  /-- 0xCB 0x5E `bit 3, [hl]` (R282) -/
  | bit3AtHl
  /-- 0xCB 0x5F `bit 3, a` (R281) -/
  | bit3A
  /-- 0xCB 0x60 `bit 4, b` (R281) -/
  | bit4B
  /-- 0xCB 0x61 `bit 4, c` (R281) -/
  | bit4C
  /-- 0xCB 0x62 `bit 4, d` (R281) -/
  | bit4D
  /-- 0xCB 0x63 `bit 4, e` (R281) -/
  | bit4E
  /-- 0xCB 0x64 `bit 4, h` (R281) -/
  | bit4H
  /-- 0xCB 0x65 `bit 4, l` (R281) -/
  | bit4L
  /-- 0xCB 0x66 `bit 4, [hl]` (R282) -/
  | bit4AtHl
  /-- 0xCB 0x67 `bit 4, a` (R281) -/
  | bit4A
  /-- 0xCB 0x68 `bit 5, b` (R281) -/
  | bit5B
  /-- 0xCB 0x69 `bit 5, c` (R281) -/
  | bit5C
  /-- 0xCB 0x6A `bit 5, d` (R281) -/
  | bit5D
  /-- 0xCB 0x6B `bit 5, e` (R281) -/
  | bit5E
  /-- 0xCB 0x6C `bit 5, h` (R281) -/
  | bit5H
  /-- 0xCB 0x6D `bit 5, l` (R281) -/
  | bit5L
  /-- 0xCB 0x6E `bit 5, [hl]` (R282) -/
  | bit5AtHl
  /-- 0xCB 0x6F `bit 5, a` (R281) -/
  | bit5A
  /-- 0xCB 0x70 `bit 6, b` (R281) -/
  | bit6B
  /-- 0xCB 0x71 `bit 6, c` (R281) -/
  | bit6C
  /-- 0xCB 0x72 `bit 6, d` (R281) -/
  | bit6D
  /-- 0xCB 0x73 `bit 6, e` (R281) -/
  | bit6E
  /-- 0xCB 0x74 `bit 6, h` (R281) -/
  | bit6H
  /-- 0xCB 0x75 `bit 6, l` (R281) -/
  | bit6L
  /-- 0xCB 0x76 `bit 6, [hl]` (R282) -/
  | bit6AtHl
  /-- 0xCB 0x77 `bit 6, a` (R281) -/
  | bit6A
  /-- 0xCB 0x78 `bit 7, b` (R281) -/
  | bit7B
  /-- 0xCB 0x79 `bit 7, c` (R281) -/
  | bit7C
  /-- 0xCB 0x7A `bit 7, d` (R281) -/
  | bit7D
  /-- 0xCB 0x7B `bit 7, e` (R281) -/
  | bit7E
  /-- 0xCB 0x7C `bit 7, h` (R281) -/
  | bit7H
  /-- 0xCB 0x7D `bit 7, l` (R281) -/
  | bit7L
  /-- 0xCB 0x7E `bit 7, [hl]` (R282) -/
  | bit7AtHl
  /-- 0xCB 0x7F `bit 7, a` (R281) -/
  | bit7A
  /-- 0xCB 0x80 `res 0, b` (R283) -/
  | res0B
  /-- 0xCB 0x81 `res 0, c` (R283) -/
  | res0C
  /-- 0xCB 0x82 `res 0, d` (R283) -/
  | res0D
  /-- 0xCB 0x83 `res 0, e` (R283) -/
  | res0E
  /-- 0xCB 0x84 `res 0, h` (R283) -/
  | res0H
  /-- 0xCB 0x85 `res 0, l` (R283) -/
  | res0L
  /-- 0xCB 0x86 `res 0, [hl]` (R284) -/
  | res0AtHl
  /-- 0xCB 0x87 `res 0, a` (R283) -/
  | res0A
  /-- 0xCB 0x88 `res 1, b` (R283) -/
  | res1B
  /-- 0xCB 0x89 `res 1, c` (R283) -/
  | res1C
  /-- 0xCB 0x8A `res 1, d` (R283) -/
  | res1D
  /-- 0xCB 0x8B `res 1, e` (R283) -/
  | res1E
  /-- 0xCB 0x8C `res 1, h` (R283) -/
  | res1H
  /-- 0xCB 0x8D `res 1, l` (R283) -/
  | res1L
  /-- 0xCB 0x8E `res 1, [hl]` (R284) -/
  | res1AtHl
  /-- 0xCB 0x8F `res 1, a` (R283) -/
  | res1A
  /-- 0xCB 0x90 `res 2, b` (R283) -/
  | res2B
  /-- 0xCB 0x91 `res 2, c` (R283) -/
  | res2C
  /-- 0xCB 0x92 `res 2, d` (R283) -/
  | res2D
  /-- 0xCB 0x93 `res 2, e` (R283) -/
  | res2E
  /-- 0xCB 0x94 `res 2, h` (R283) -/
  | res2H
  /-- 0xCB 0x95 `res 2, l` (R283) -/
  | res2L
  /-- 0xCB 0x96 `res 2, [hl]` (R284) -/
  | res2AtHl
  /-- 0xCB 0x97 `res 2, a` (R283) -/
  | res2A
  /-- 0xCB 0x98 `res 3, b` (R283) -/
  | res3B
  /-- 0xCB 0x99 `res 3, c` (R283) -/
  | res3C
  /-- 0xCB 0x9A `res 3, d` (R283) -/
  | res3D
  /-- 0xCB 0x9B `res 3, e` (R283) -/
  | res3E
  /-- 0xCB 0x9C `res 3, h` (R283) -/
  | res3H
  /-- 0xCB 0x9D `res 3, l` (R283) -/
  | res3L
  /-- 0xCB 0x9E `res 3, [hl]` (R284) -/
  | res3AtHl
  /-- 0xCB 0x9F `res 3, a` (R283) -/
  | res3A
  /-- 0xCB 0xA0 `res 4, b` (R283) -/
  | res4B
  /-- 0xCB 0xA1 `res 4, c` (R283) -/
  | res4C
  /-- 0xCB 0xA2 `res 4, d` (R283) -/
  | res4D
  /-- 0xCB 0xA3 `res 4, e` (R283) -/
  | res4E
  /-- 0xCB 0xA4 `res 4, h` (R283) -/
  | res4H
  /-- 0xCB 0xA5 `res 4, l` (R283) -/
  | res4L
  /-- 0xCB 0xA6 `res 4, [hl]` (R284) -/
  | res4AtHl
  /-- 0xCB 0xA7 `res 4, a` (R283) -/
  | res4A
  /-- 0xCB 0xA8 `res 5, b` (R283) -/
  | res5B
  /-- 0xCB 0xA9 `res 5, c` (R283) -/
  | res5C
  /-- 0xCB 0xAA `res 5, d` (R283) -/
  | res5D
  /-- 0xCB 0xAB `res 5, e` (R283) -/
  | res5E
  /-- 0xCB 0xAC `res 5, h` (R283) -/
  | res5H
  /-- 0xCB 0xAD `res 5, l` (R283) -/
  | res5L
  /-- 0xCB 0xAE `res 5, [hl]` (R284) -/
  | res5AtHl
  /-- 0xCB 0xAF `res 5, a` (R283) -/
  | res5A
  /-- 0xCB 0xB0 `res 6, b` (R283) -/
  | res6B
  /-- 0xCB 0xB1 `res 6, c` (R283) -/
  | res6C
  /-- 0xCB 0xB2 `res 6, d` (R283) -/
  | res6D
  /-- 0xCB 0xB3 `res 6, e` (R283) -/
  | res6E
  /-- 0xCB 0xB4 `res 6, h` (R283) -/
  | res6H
  /-- 0xCB 0xB5 `res 6, l` (R283) -/
  | res6L
  /-- 0xCB 0xB6 `res 6, [hl]` (R284) -/
  | res6AtHl
  /-- 0xCB 0xB7 `res 6, a` (R283) -/
  | res6A
  /-- 0xCB 0xB8 `res 7, b` (R283) -/
  | res7B
  /-- 0xCB 0xB9 `res 7, c` (R283) -/
  | res7C
  /-- 0xCB 0xBA `res 7, d` (R283) -/
  | res7D
  /-- 0xCB 0xBB `res 7, e` (R283) -/
  | res7E
  /-- 0xCB 0xBC `res 7, h` (R283) -/
  | res7H
  /-- 0xCB 0xBD `res 7, l` (R283) -/
  | res7L
  /-- 0xCB 0xBE `res 7, [hl]` (R284) -/
  | res7AtHl
  /-- 0xCB 0xBF `res 7, a` (R283) -/
  | res7A
  /-- 0xCB 0xC0 `set 0, b` (R285) -/
  | set0B
  /-- 0xCB 0xC1 `set 0, c` (R285) -/
  | set0C
  /-- 0xCB 0xC2 `set 0, d` (R285) -/
  | set0D
  /-- 0xCB 0xC3 `set 0, e` (R285) -/
  | set0E
  /-- 0xCB 0xC4 `set 0, h` (R285) -/
  | set0H
  /-- 0xCB 0xC5 `set 0, l` (R285) -/
  | set0L
  /-- 0xCB 0xC6 `set 0, [hl]` (R286) -/
  | set0AtHl
  /-- 0xCB 0xC7 `set 0, a` (R285) -/
  | set0A
  /-- 0xCB 0xC8 `set 1, b` (R285) -/
  | set1B
  /-- 0xCB 0xC9 `set 1, c` (R285) -/
  | set1C
  /-- 0xCB 0xCA `set 1, d` (R285) -/
  | set1D
  /-- 0xCB 0xCB `set 1, e` (R285) -/
  | set1E
  /-- 0xCB 0xCC `set 1, h` (R285) -/
  | set1H
  /-- 0xCB 0xCD `set 1, l` (R285) -/
  | set1L
  /-- 0xCB 0xCE `set 1, [hl]` (R286) -/
  | set1AtHl
  /-- 0xCB 0xCF `set 1, a` (R285) -/
  | set1A
  /-- 0xCB 0xD0 `set 2, b` (R285) -/
  | set2B
  /-- 0xCB 0xD1 `set 2, c` (R285) -/
  | set2C
  /-- 0xCB 0xD2 `set 2, d` (R285) -/
  | set2D
  /-- 0xCB 0xD3 `set 2, e` (R285) -/
  | set2E
  /-- 0xCB 0xD4 `set 2, h` (R285) -/
  | set2H
  /-- 0xCB 0xD5 `set 2, l` (R285) -/
  | set2L
  /-- 0xCB 0xD6 `set 2, [hl]` (R286) -/
  | set2AtHl
  /-- 0xCB 0xD7 `set 2, a` (R285) -/
  | set2A
  /-- 0xCB 0xD8 `set 3, b` (R285) -/
  | set3B
  /-- 0xCB 0xD9 `set 3, c` (R285) -/
  | set3C
  /-- 0xCB 0xDA `set 3, d` (R285) -/
  | set3D
  /-- 0xCB 0xDB `set 3, e` (R285) -/
  | set3E
  /-- 0xCB 0xDC `set 3, h` (R285) -/
  | set3H
  /-- 0xCB 0xDD `set 3, l` (R285) -/
  | set3L
  /-- 0xCB 0xDE `set 3, [hl]` (R286) -/
  | set3AtHl
  /-- 0xCB 0xDF `set 3, a` (R285) -/
  | set3A
  /-- 0xCB 0xE0 `set 4, b` (R285) -/
  | set4B
  /-- 0xCB 0xE1 `set 4, c` (R285) -/
  | set4C
  /-- 0xCB 0xE2 `set 4, d` (R285) -/
  | set4D
  /-- 0xCB 0xE3 `set 4, e` (R285) -/
  | set4E
  /-- 0xCB 0xE4 `set 4, h` (R285) -/
  | set4H
  /-- 0xCB 0xE5 `set 4, l` (R285) -/
  | set4L
  /-- 0xCB 0xE6 `set 4, [hl]` (R286) -/
  | set4AtHl
  /-- 0xCB 0xE7 `set 4, a` (R285) -/
  | set4A
  /-- 0xCB 0xE8 `set 5, b` (R285) -/
  | set5B
  /-- 0xCB 0xE9 `set 5, c` (R285) -/
  | set5C
  /-- 0xCB 0xEA `set 5, d` (R285) -/
  | set5D
  /-- 0xCB 0xEB `set 5, e` (R285) -/
  | set5E
  /-- 0xCB 0xEC `set 5, h` (R285) -/
  | set5H
  /-- 0xCB 0xED `set 5, l` (R285) -/
  | set5L
  /-- 0xCB 0xEE `set 5, [hl]` (R286) -/
  | set5AtHl
  /-- 0xCB 0xEF `set 5, a` (R285) -/
  | set5A
  /-- 0xCB 0xF0 `set 6, b` (R285) -/
  | set6B
  /-- 0xCB 0xF1 `set 6, c` (R285) -/
  | set6C
  /-- 0xCB 0xF2 `set 6, d` (R285) -/
  | set6D
  /-- 0xCB 0xF3 `set 6, e` (R285) -/
  | set6E
  /-- 0xCB 0xF4 `set 6, h` (R285) -/
  | set6H
  /-- 0xCB 0xF5 `set 6, l` (R285) -/
  | set6L
  /-- 0xCB 0xF6 `set 6, [hl]` (R286) -/
  | set6AtHl
  /-- 0xCB 0xF7 `set 6, a` (R285) -/
  | set6A
  /-- 0xCB 0xF8 `set 7, b` (R285) -/
  | set7B
  /-- 0xCB 0xF9 `set 7, c` (R285) -/
  | set7C
  /-- 0xCB 0xFA `set 7, d` (R285) -/
  | set7D
  /-- 0xCB 0xFB `set 7, e` (R285) -/
  | set7E
  /-- 0xCB 0xFC `set 7, h` (R285) -/
  | set7H
  /-- 0xCB 0xFD `set 7, l` (R285) -/
  | set7L
  /-- 0xCB 0xFE `set 7, [hl]` (R286) -/
  | set7AtHl
  /-- 0xCB 0xFF `set 7, a` (R285) -/
  | set7A
deriving DecidableEq, Repr

/-- `ld r, r2` for the register codes dst (destination) and r (source): the 49 opcodes of 40_loads.md R110. -/
def Instr.ofLdR8R8 (dst r : R8) : Instr :=
  match dst, r with
  | .b, .b => .ldBB
  | .b, .c => .ldBC
  | .b, .d => .ldBD
  | .b, .e => .ldBE
  | .b, .h => .ldBH
  | .b, .l => .ldBL
  | .b, .a => .ldBA
  | .c, .b => .ldCB
  | .c, .c => .ldCC
  | .c, .d => .ldCD
  | .c, .e => .ldCE
  | .c, .h => .ldCH
  | .c, .l => .ldCL
  | .c, .a => .ldCA
  | .d, .b => .ldDB
  | .d, .c => .ldDC
  | .d, .d => .ldDD
  | .d, .e => .ldDE
  | .d, .h => .ldDH
  | .d, .l => .ldDL
  | .d, .a => .ldDA
  | .e, .b => .ldEB
  | .e, .c => .ldEC
  | .e, .d => .ldED
  | .e, .e => .ldEE
  | .e, .h => .ldEH
  | .e, .l => .ldEL
  | .e, .a => .ldEA
  | .h, .b => .ldHB
  | .h, .c => .ldHC
  | .h, .d => .ldHD
  | .h, .e => .ldHE
  | .h, .h => .ldHH
  | .h, .l => .ldHL
  | .h, .a => .ldHA
  | .l, .b => .ldLB
  | .l, .c => .ldLC
  | .l, .d => .ldLD
  | .l, .e => .ldLE
  | .l, .h => .ldLH
  | .l, .l => .ldLL
  | .l, .a => .ldLA
  | .a, .b => .ldAB
  | .a, .c => .ldAC
  | .a, .d => .ldAD
  | .a, .e => .ldAE
  | .a, .h => .ldAH
  | .a, .l => .ldAL
  | .a, .a => .ldAA

/-- `ld r, n8`, the seven opcodes of 40_loads.md R111. -/
def Instr.ofLdR8N8 (dst : R8) (n : Byte) : Instr :=
  match dst with
  | .b => .ldBN8 n
  | .c => .ldCN8 n
  | .d => .ldDN8 n
  | .e => .ldEN8 n
  | .h => .ldHN8 n
  | .l => .ldLN8 n
  | .a => .ldAN8 n

/-- `ld r, [hl]`, the seven opcodes of 40_loads.md R112. -/
def Instr.ofLdR8AtHl (dst : R8) : Instr :=
  match dst with
  | .b => .ldBAtHl
  | .c => .ldCAtHl
  | .d => .ldDAtHl
  | .e => .ldEAtHl
  | .h => .ldHAtHl
  | .l => .ldLAtHl
  | .a => .ldAAtHl

/-- `ld [hl], r`, the seven opcodes of 40_loads.md R113. -/
def Instr.ofLdAtHlR8 (r : R8) : Instr :=
  match r with
  | .b => .ldAtHlB
  | .c => .ldAtHlC
  | .d => .ldAtHlD
  | .e => .ldAtHlE
  | .h => .ldAtHlH
  | .l => .ldAtHlL
  | .a => .ldAtHlA

/-- `inc r`, the seven opcodes of 41_alu8.md R152. -/
def Instr.ofIncR8 (r : R8) : Instr :=
  match r with
  | .b => .incB
  | .c => .incC
  | .d => .incD
  | .e => .incE
  | .h => .incH
  | .l => .incL
  | .a => .incA

/-- `dec r`, the seven opcodes of 41_alu8.md R154. -/
def Instr.ofDecR8 (r : R8) : Instr :=
  match r with
  | .b => .decB
  | .c => .decC
  | .d => .decD
  | .e => .decE
  | .h => .decH
  | .l => .decL
  | .a => .decA

/-- An accumulator operation with a register operand: the 56 opcodes of 41_alu8.md R156, R159, R162, R165, R168, R171, R174 and R177. -/
def Instr.ofAluR8 (op : AluOp) (r : R8) : Instr :=
  match op, r with
  | .add, .b => .addAB
  | .add, .c => .addAC
  | .add, .d => .addAD
  | .add, .e => .addAE
  | .add, .h => .addAH
  | .add, .l => .addAL
  | .add, .a => .addAA
  | .adc, .b => .adcAB
  | .adc, .c => .adcAC
  | .adc, .d => .adcAD
  | .adc, .e => .adcAE
  | .adc, .h => .adcAH
  | .adc, .l => .adcAL
  | .adc, .a => .adcAA
  | .sub, .b => .subAB
  | .sub, .c => .subAC
  | .sub, .d => .subAD
  | .sub, .e => .subAE
  | .sub, .h => .subAH
  | .sub, .l => .subAL
  | .sub, .a => .subAA
  | .sbc, .b => .sbcAB
  | .sbc, .c => .sbcAC
  | .sbc, .d => .sbcAD
  | .sbc, .e => .sbcAE
  | .sbc, .h => .sbcAH
  | .sbc, .l => .sbcAL
  | .sbc, .a => .sbcAA
  | .and, .b => .andAB
  | .and, .c => .andAC
  | .and, .d => .andAD
  | .and, .e => .andAE
  | .and, .h => .andAH
  | .and, .l => .andAL
  | .and, .a => .andAA
  | .xor, .b => .xorAB
  | .xor, .c => .xorAC
  | .xor, .d => .xorAD
  | .xor, .e => .xorAE
  | .xor, .h => .xorAH
  | .xor, .l => .xorAL
  | .xor, .a => .xorAA
  | .or, .b => .orAB
  | .or, .c => .orAC
  | .or, .d => .orAD
  | .or, .e => .orAE
  | .or, .h => .orAH
  | .or, .l => .orAL
  | .or, .a => .orAA
  | .cp, .b => .cpAB
  | .cp, .c => .cpAC
  | .cp, .d => .cpAD
  | .cp, .e => .cpAE
  | .cp, .h => .cpAH
  | .cp, .l => .cpAL
  | .cp, .a => .cpAA

/-- An accumulator operation with the byte at HL: 41_alu8.md R157, R160, R163, R166, R169, R172, R175 and R178. -/
def Instr.ofAluAtHl (op : AluOp) : Instr :=
  match op with
  | .add => .addAAtHl
  | .adc => .adcAAtHl
  | .sub => .subAAtHl
  | .sbc => .sbcAAtHl
  | .and => .andAAtHl
  | .xor => .xorAAtHl
  | .or => .orAAtHl
  | .cp => .cpAAtHl

/-- An accumulator operation with an immediate byte: 41_alu8.md R158, R161, R164, R167, R170, R173, R176 and R179. -/
def Instr.ofAluN8 (op : AluOp) (n : Byte) : Instr :=
  match op with
  | .add => .addAN8 n
  | .adc => .adcAN8 n
  | .sub => .subAN8 n
  | .sbc => .sbcAN8 n
  | .and => .andAN8 n
  | .xor => .xorAN8 n
  | .or => .orAN8 n
  | .cp => .cpAN8 n

/-- `ld ss, n16`, the four opcodes of 40_loads.md R127. -/
def Instr.ofLdR16N16 (ss : R16) (n : Word) : Instr :=
  match ss with
  | .bc => .ldBcN16 n
  | .de => .ldDeN16 n
  | .hl => .ldHlN16 n
  | .sp => .ldSpN16 n

/-- `inc ss`, the four opcodes of 42_alu16.md R191. -/
def Instr.ofIncR16 (ss : R16) : Instr :=
  match ss with
  | .bc => .incBc
  | .de => .incDe
  | .hl => .incHl
  | .sp => .incSp

/-- `dec ss`, the four opcodes of 42_alu16.md R192. -/
def Instr.ofDecR16 (ss : R16) : Instr :=
  match ss with
  | .bc => .decBc
  | .de => .decDe
  | .hl => .decHl
  | .sp => .decSp

/-- `add hl, ss`, the four opcodes of 42_alu16.md R193. -/
def Instr.ofAddHlR16 (ss : R16) : Instr :=
  match ss with
  | .bc => .addHlBc
  | .de => .addHlDe
  | .hl => .addHlHl
  | .sp => .addHlSp

/-- `push qq` for a pair, the three opcodes of 40_loads.md R132. -/
def Instr.ofPushPair (ss : Pair) : Instr :=
  match ss with
  | .bc => .pushBc
  | .de => .pushDe
  | .hl => .pushHl

/-- `pop qq` for a pair, the three opcodes of 40_loads.md R134. -/
def Instr.ofPopPair (ss : Pair) : Instr :=
  match ss with
  | .bc => .popBc
  | .de => .popDe
  | .hl => .popHl

/-- `jr cc, e8`, the four opcodes of 43_control.md R212. -/
def Instr.ofJrCc (cc : Cond) (e : Byte) : Instr :=
  match cc with
  | .nz => .jrNzE8 e
  | .z => .jrZE8 e
  | .nc => .jrNcE8 e
  | .c => .jrCE8 e

/-- `jp cc, n16`, the four opcodes of 43_control.md R214. -/
def Instr.ofJpCc (cc : Cond) (n : Word) : Instr :=
  match cc with
  | .nz => .jpNzN16 n
  | .z => .jpZN16 n
  | .nc => .jpNcN16 n
  | .c => .jpCN16 n

/-- `call cc, n16`, the four opcodes of 43_control.md R217. -/
def Instr.ofCallCc (cc : Cond) (n : Word) : Instr :=
  match cc with
  | .nz => .callNzN16 n
  | .z => .callZN16 n
  | .nc => .callNcN16 n
  | .c => .callCN16 n

/-- `ret cc`, the four opcodes of 43_control.md R219. -/
def Instr.ofRetCc (cc : Cond) : Instr :=
  match cc with
  | .nz => .retNz
  | .z => .retZ
  | .nc => .retNc
  | .c => .retC

/-- `rst t`, the eight opcodes of 43_control.md R221, by the restart code t of 30_encoding.md R88. -/
def Instr.ofRst (t : Fin 8) : Instr :=
  match t with
  | 0 => .rst00
  | 1 => .rst08
  | 2 => .rst10
  | 3 => .rst18
  | 4 => .rst20
  | 5 => .rst28
  | 6 => .rst30
  | 7 => .rst38

/-- A rotate or shift of a register: the 56 codes of 45_rotate_cb.md R265, R267, R269, R271, R273, R275, R277 and R279. -/
def Instr.ofShiftR8 (op : ShiftOp) (r : R8) : Instr :=
  match op, r with
  | .rlc, .b => .rlcB
  | .rlc, .c => .rlcC
  | .rlc, .d => .rlcD
  | .rlc, .e => .rlcE
  | .rlc, .h => .rlcH
  | .rlc, .l => .rlcL
  | .rlc, .a => .rlcA
  | .rrc, .b => .rrcB
  | .rrc, .c => .rrcC
  | .rrc, .d => .rrcD
  | .rrc, .e => .rrcE
  | .rrc, .h => .rrcH
  | .rrc, .l => .rrcL
  | .rrc, .a => .rrcA
  | .rl, .b => .rlB
  | .rl, .c => .rlC
  | .rl, .d => .rlD
  | .rl, .e => .rlE
  | .rl, .h => .rlH
  | .rl, .l => .rlL
  | .rl, .a => .rlA
  | .rr, .b => .rrB
  | .rr, .c => .rrC
  | .rr, .d => .rrD
  | .rr, .e => .rrE
  | .rr, .h => .rrH
  | .rr, .l => .rrL
  | .rr, .a => .rrA
  | .sla, .b => .slaB
  | .sla, .c => .slaC
  | .sla, .d => .slaD
  | .sla, .e => .slaE
  | .sla, .h => .slaH
  | .sla, .l => .slaL
  | .sla, .a => .slaA
  | .sra, .b => .sraB
  | .sra, .c => .sraC
  | .sra, .d => .sraD
  | .sra, .e => .sraE
  | .sra, .h => .sraH
  | .sra, .l => .sraL
  | .sra, .a => .sraA
  | .swap, .b => .swapB
  | .swap, .c => .swapC
  | .swap, .d => .swapD
  | .swap, .e => .swapE
  | .swap, .h => .swapH
  | .swap, .l => .swapL
  | .swap, .a => .swapA
  | .srl, .b => .srlB
  | .srl, .c => .srlC
  | .srl, .d => .srlD
  | .srl, .e => .srlE
  | .srl, .h => .srlH
  | .srl, .l => .srlL
  | .srl, .a => .srlA

/-- A rotate or shift of the byte at HL: 45_rotate_cb.md R266, R268, R270, R272, R274, R276, R278 and R280. -/
def Instr.ofShiftAtHl (op : ShiftOp) : Instr :=
  match op with
  | .rlc => .rlcAtHl
  | .rrc => .rrcAtHl
  | .rl => .rlAtHl
  | .rr => .rrAtHl
  | .sla => .slaAtHl
  | .sra => .sraAtHl
  | .swap => .swapAtHl
  | .srl => .srlAtHl

/-- `bit b, r`, the 56 codes of 45_rotate_cb.md R281. -/
def Instr.ofBitR8 (n : Fin 8) (r : R8) : Instr :=
  match r with
  | .b => match n with | 0 => .bit0B | 1 => .bit1B | 2 => .bit2B | 3 => .bit3B | 4 => .bit4B | 5 => .bit5B | 6 => .bit6B | 7 => .bit7B
  | .c => match n with | 0 => .bit0C | 1 => .bit1C | 2 => .bit2C | 3 => .bit3C | 4 => .bit4C | 5 => .bit5C | 6 => .bit6C | 7 => .bit7C
  | .d => match n with | 0 => .bit0D | 1 => .bit1D | 2 => .bit2D | 3 => .bit3D | 4 => .bit4D | 5 => .bit5D | 6 => .bit6D | 7 => .bit7D
  | .e => match n with | 0 => .bit0E | 1 => .bit1E | 2 => .bit2E | 3 => .bit3E | 4 => .bit4E | 5 => .bit5E | 6 => .bit6E | 7 => .bit7E
  | .h => match n with | 0 => .bit0H | 1 => .bit1H | 2 => .bit2H | 3 => .bit3H | 4 => .bit4H | 5 => .bit5H | 6 => .bit6H | 7 => .bit7H
  | .l => match n with | 0 => .bit0L | 1 => .bit1L | 2 => .bit2L | 3 => .bit3L | 4 => .bit4L | 5 => .bit5L | 6 => .bit6L | 7 => .bit7L
  | .a => match n with | 0 => .bit0A | 1 => .bit1A | 2 => .bit2A | 3 => .bit3A | 4 => .bit4A | 5 => .bit5A | 6 => .bit6A | 7 => .bit7A

/-- `bit b, [hl]`, the eight codes of 45_rotate_cb.md R282. -/
def Instr.ofBitAtHl (n : Fin 8) : Instr :=
  match n with
  | 0 => .bit0AtHl
  | 1 => .bit1AtHl
  | 2 => .bit2AtHl
  | 3 => .bit3AtHl
  | 4 => .bit4AtHl
  | 5 => .bit5AtHl
  | 6 => .bit6AtHl
  | 7 => .bit7AtHl

/-- `res b, r`, the 56 codes of 45_rotate_cb.md R283. -/
def Instr.ofResR8 (n : Fin 8) (r : R8) : Instr :=
  match r with
  | .b => match n with | 0 => .res0B | 1 => .res1B | 2 => .res2B | 3 => .res3B | 4 => .res4B | 5 => .res5B | 6 => .res6B | 7 => .res7B
  | .c => match n with | 0 => .res0C | 1 => .res1C | 2 => .res2C | 3 => .res3C | 4 => .res4C | 5 => .res5C | 6 => .res6C | 7 => .res7C
  | .d => match n with | 0 => .res0D | 1 => .res1D | 2 => .res2D | 3 => .res3D | 4 => .res4D | 5 => .res5D | 6 => .res6D | 7 => .res7D
  | .e => match n with | 0 => .res0E | 1 => .res1E | 2 => .res2E | 3 => .res3E | 4 => .res4E | 5 => .res5E | 6 => .res6E | 7 => .res7E
  | .h => match n with | 0 => .res0H | 1 => .res1H | 2 => .res2H | 3 => .res3H | 4 => .res4H | 5 => .res5H | 6 => .res6H | 7 => .res7H
  | .l => match n with | 0 => .res0L | 1 => .res1L | 2 => .res2L | 3 => .res3L | 4 => .res4L | 5 => .res5L | 6 => .res6L | 7 => .res7L
  | .a => match n with | 0 => .res0A | 1 => .res1A | 2 => .res2A | 3 => .res3A | 4 => .res4A | 5 => .res5A | 6 => .res6A | 7 => .res7A

/-- `res b, [hl]`, the eight codes of 45_rotate_cb.md R284. -/
def Instr.ofResAtHl (n : Fin 8) : Instr :=
  match n with
  | 0 => .res0AtHl
  | 1 => .res1AtHl
  | 2 => .res2AtHl
  | 3 => .res3AtHl
  | 4 => .res4AtHl
  | 5 => .res5AtHl
  | 6 => .res6AtHl
  | 7 => .res7AtHl

/-- `set b, r`, the 56 codes of 45_rotate_cb.md R285. -/
def Instr.ofSetR8 (n : Fin 8) (r : R8) : Instr :=
  match r with
  | .b => match n with | 0 => .set0B | 1 => .set1B | 2 => .set2B | 3 => .set3B | 4 => .set4B | 5 => .set5B | 6 => .set6B | 7 => .set7B
  | .c => match n with | 0 => .set0C | 1 => .set1C | 2 => .set2C | 3 => .set3C | 4 => .set4C | 5 => .set5C | 6 => .set6C | 7 => .set7C
  | .d => match n with | 0 => .set0D | 1 => .set1D | 2 => .set2D | 3 => .set3D | 4 => .set4D | 5 => .set5D | 6 => .set6D | 7 => .set7D
  | .e => match n with | 0 => .set0E | 1 => .set1E | 2 => .set2E | 3 => .set3E | 4 => .set4E | 5 => .set5E | 6 => .set6E | 7 => .set7E
  | .h => match n with | 0 => .set0H | 1 => .set1H | 2 => .set2H | 3 => .set3H | 4 => .set4H | 5 => .set5H | 6 => .set6H | 7 => .set7H
  | .l => match n with | 0 => .set0L | 1 => .set1L | 2 => .set2L | 3 => .set3L | 4 => .set4L | 5 => .set5L | 6 => .set6L | 7 => .set7L
  | .a => match n with | 0 => .set0A | 1 => .set1A | 2 => .set2A | 3 => .set3A | 4 => .set4A | 5 => .set5A | 6 => .set6A | 7 => .set7A

/-- `set b, [hl]`, the eight codes of 45_rotate_cb.md R286. -/
def Instr.ofSetAtHl (n : Fin 8) : Instr :=
  match n with
  | 0 => .set0AtHl
  | 1 => .set1AtHl
  | 2 => .set2AtHl
  | 3 => .set3AtHl
  | 4 => .set4AtHl
  | 5 => .set5AtHl
  | 6 => .set6AtHl
  | 7 => .set7AtHl

end Sys2Proof
end

