-- ==== Sys2Proof/WellFormed.lean ====
section
/-! DEFINITION. Which instructions and parameters are well formed. -/

namespace Sys2Proof

/-- Every term of `Instr` is an instruction of the table: an immediate is typed by the width its format gives it
(30_encoding.md R81: one byte, or two), and an opcode is a constructor, so there is no operand left to check (R97: "Every byte
sequence decodes"). The predicate stands for the encoder's and decoder's domain, which is the whole type. -/
def Instr.wellFormed (_ : Instr) : Bool := true

/-- The parameter RET_CC_TAKEN_COST is a cost, and "each executed instruction's fixed cost" is 1 to 6 units (10_state.md R34,
70_reset_and_hazards.md R341). -/
def Config.wellFormed (g : Config) : Bool := decide (1 ≤ g.retCcTakenCost) && decide (g.retCcTakenCost ≤ 6)

end Sys2Proof
end

