-- ==== Sys2Proof/Decode.lean ====
section
/-! DEFINITION. The decoder (30_encoding.md R80 to R97) and, after it, the encoder. Decoding selects an entry of the primary
grid of R90 by the first byte and, after the prefix 0xCB, an entry of the secondary grid of R91 by the second byte. -/

namespace Sys2Proof

/-- `hi ++ lo` of 00_scope.md R9: the u16 `hi*256 + lo`. -/
def joinBytes (hi lo : Byte) : Word := hi ++ lo

/-- `v[7:0]`. -/
def loByte (v : Word) : Byte := v.extractLsb' 0 8

/-- `v[15:8]`. -/
def hiByte (v : Word) : Byte := v.extractLsb' 8 8

/-- An entry of the primary table: a handler by its format (30_encoding.md R81), or the prefix 0xCB. The bytes a format
fetches after the opcode are the entry's arguments. -/
inductive Entry where
  /-- one byte: the opcode alone -/
  | p1 (i : Instr)
  /-- two bytes: the opcode and `n8` or `e8` -/
  | p2 (k : Byte → Instr)
  /-- three bytes: the opcode, `n16[7:0]`, `n16[15:8]` -/
  | p3 (k : Word → Instr)
  /-- the prefix, which delegates to the secondary table -/
  | cb

/-- The primary opcode map of 30_encoding.md R90, row by row: row H, column L is opcode 0xHL. -/
def primaryGrid : Vector (Vector Entry 16) 16 := #v[
  #v[.p1 .nop, .p3 .ldBcN16, .p1 .ldAtBcA, .p1 .incBc, .p1 .incB, .p1 .decB, .p2 .ldBN8, .p1 .rlca, .p3 .ldAtN16Sp, .p1 .addHlBc, .p1 .ldAAtBc, .p1 .decBc, .p1 .incC, .p1 .decC, .p2 .ldCN8, .p1 .rrca],
  #v[.p2 .stop, .p3 .ldDeN16, .p1 .ldAtDeA, .p1 .incDe, .p1 .incD, .p1 .decD, .p2 .ldDN8, .p1 .rla, .p2 .jrE8, .p1 .addHlDe, .p1 .ldAAtDe, .p1 .decDe, .p1 .incE, .p1 .decE, .p2 .ldEN8, .p1 .rra],
  #v[.p2 .jrNzE8, .p3 .ldHlN16, .p1 .ldAtHlIncA, .p1 .incHl, .p1 .incH, .p1 .decH, .p2 .ldHN8, .p1 .daa, .p2 .jrZE8, .p1 .addHlHl, .p1 .ldAAtHlInc, .p1 .decHl, .p1 .incL, .p1 .decL, .p2 .ldLN8, .p1 .cpl],
  #v[.p2 .jrNcE8, .p3 .ldSpN16, .p1 .ldAtHlDecA, .p1 .incSp, .p1 .incAtHl, .p1 .decAtHl, .p2 .ldAtHlN8, .p1 .scf, .p2 .jrCE8, .p1 .addHlSp, .p1 .ldAAtHlDec, .p1 .decSp, .p1 .incA, .p1 .decA, .p2 .ldAN8, .p1 .ccf],
  #v[.p1 .ldBB, .p1 .ldBC, .p1 .ldBD, .p1 .ldBE, .p1 .ldBH, .p1 .ldBL, .p1 .ldBAtHl, .p1 .ldBA, .p1 .ldCB, .p1 .ldCC, .p1 .ldCD, .p1 .ldCE, .p1 .ldCH, .p1 .ldCL, .p1 .ldCAtHl, .p1 .ldCA],
  #v[.p1 .ldDB, .p1 .ldDC, .p1 .ldDD, .p1 .ldDE, .p1 .ldDH, .p1 .ldDL, .p1 .ldDAtHl, .p1 .ldDA, .p1 .ldEB, .p1 .ldEC, .p1 .ldED, .p1 .ldEE, .p1 .ldEH, .p1 .ldEL, .p1 .ldEAtHl, .p1 .ldEA],
  #v[.p1 .ldHB, .p1 .ldHC, .p1 .ldHD, .p1 .ldHE, .p1 .ldHH, .p1 .ldHL, .p1 .ldHAtHl, .p1 .ldHA, .p1 .ldLB, .p1 .ldLC, .p1 .ldLD, .p1 .ldLE, .p1 .ldLH, .p1 .ldLL, .p1 .ldLAtHl, .p1 .ldLA],
  #v[.p1 .ldAtHlB, .p1 .ldAtHlC, .p1 .ldAtHlD, .p1 .ldAtHlE, .p1 .ldAtHlH, .p1 .ldAtHlL, .p1 .halt, .p1 .ldAtHlA, .p1 .ldAB, .p1 .ldAC, .p1 .ldAD, .p1 .ldAE, .p1 .ldAH, .p1 .ldAL, .p1 .ldAAtHl, .p1 .ldAA],
  #v[.p1 .addAB, .p1 .addAC, .p1 .addAD, .p1 .addAE, .p1 .addAH, .p1 .addAL, .p1 .addAAtHl, .p1 .addAA, .p1 .adcAB, .p1 .adcAC, .p1 .adcAD, .p1 .adcAE, .p1 .adcAH, .p1 .adcAL, .p1 .adcAAtHl, .p1 .adcAA],
  #v[.p1 .subAB, .p1 .subAC, .p1 .subAD, .p1 .subAE, .p1 .subAH, .p1 .subAL, .p1 .subAAtHl, .p1 .subAA, .p1 .sbcAB, .p1 .sbcAC, .p1 .sbcAD, .p1 .sbcAE, .p1 .sbcAH, .p1 .sbcAL, .p1 .sbcAAtHl, .p1 .sbcAA],
  #v[.p1 .andAB, .p1 .andAC, .p1 .andAD, .p1 .andAE, .p1 .andAH, .p1 .andAL, .p1 .andAAtHl, .p1 .andAA, .p1 .xorAB, .p1 .xorAC, .p1 .xorAD, .p1 .xorAE, .p1 .xorAH, .p1 .xorAL, .p1 .xorAAtHl, .p1 .xorAA],
  #v[.p1 .orAB, .p1 .orAC, .p1 .orAD, .p1 .orAE, .p1 .orAH, .p1 .orAL, .p1 .orAAtHl, .p1 .orAA, .p1 .cpAB, .p1 .cpAC, .p1 .cpAD, .p1 .cpAE, .p1 .cpAH, .p1 .cpAL, .p1 .cpAAtHl, .p1 .cpAA],
  #v[.p1 .retNz, .p1 .popBc, .p3 .jpNzN16, .p3 .jpN16, .p3 .callNzN16, .p1 .pushBc, .p2 .addAN8, .p1 .rst00, .p1 .retZ, .p1 .ret, .p3 .jpZN16, .cb, .p3 .callZN16, .p3 .callN16, .p2 .adcAN8, .p1 .rst08],
  #v[.p1 .retNc, .p1 .popDe, .p3 .jpNcN16, .p1 .unassignedD3, .p3 .callNcN16, .p1 .pushDe, .p2 .subAN8, .p1 .rst10, .p1 .retC, .p1 .reti, .p3 .jpCN16, .p1 .unassignedDB, .p3 .callCN16, .p1 .unassignedDD, .p2 .sbcAN8, .p1 .rst18],
  #v[.p2 .ldhAtN8A, .p1 .popHl, .p1 .ldAtCA, .p1 .unassignedE3, .p1 .unassignedE4, .p1 .pushHl, .p2 .andAN8, .p1 .rst20, .p2 .addSpE8, .p1 .jpHl, .p3 .ldAtN16A, .p1 .unassignedEB, .p1 .unassignedEC, .p1 .unassignedED, .p2 .xorAN8, .p1 .rst28],
  #v[.p2 .ldhAAtN8, .p1 .popAf, .p1 .ldAAtC, .p1 .di, .p1 .unassignedF4, .p1 .pushAf, .p2 .orAN8, .p1 .rst30, .p2 .ldHlSpE8, .p1 .ldSpHl, .p3 .ldAAtN16, .p1 .ei, .p1 .unassignedFC, .p1 .unassignedFD, .p2 .cpAN8, .p1 .rst38]]

/-- The secondary (CB) opcode map of 30_encoding.md R91: row H, column L is the byte 0xHL after 0xCB. -/
def secondaryGrid : Vector (Vector Instr 16) 16 := #v[
  #v[.rlcB, .rlcC, .rlcD, .rlcE, .rlcH, .rlcL, .rlcAtHl, .rlcA, .rrcB, .rrcC, .rrcD, .rrcE, .rrcH, .rrcL, .rrcAtHl, .rrcA],
  #v[.rlB, .rlC, .rlD, .rlE, .rlH, .rlL, .rlAtHl, .rlA, .rrB, .rrC, .rrD, .rrE, .rrH, .rrL, .rrAtHl, .rrA],
  #v[.slaB, .slaC, .slaD, .slaE, .slaH, .slaL, .slaAtHl, .slaA, .sraB, .sraC, .sraD, .sraE, .sraH, .sraL, .sraAtHl, .sraA],
  #v[.swapB, .swapC, .swapD, .swapE, .swapH, .swapL, .swapAtHl, .swapA, .srlB, .srlC, .srlD, .srlE, .srlH, .srlL, .srlAtHl, .srlA],
  #v[.bit0B, .bit0C, .bit0D, .bit0E, .bit0H, .bit0L, .bit0AtHl, .bit0A, .bit1B, .bit1C, .bit1D, .bit1E, .bit1H, .bit1L, .bit1AtHl, .bit1A],
  #v[.bit2B, .bit2C, .bit2D, .bit2E, .bit2H, .bit2L, .bit2AtHl, .bit2A, .bit3B, .bit3C, .bit3D, .bit3E, .bit3H, .bit3L, .bit3AtHl, .bit3A],
  #v[.bit4B, .bit4C, .bit4D, .bit4E, .bit4H, .bit4L, .bit4AtHl, .bit4A, .bit5B, .bit5C, .bit5D, .bit5E, .bit5H, .bit5L, .bit5AtHl, .bit5A],
  #v[.bit6B, .bit6C, .bit6D, .bit6E, .bit6H, .bit6L, .bit6AtHl, .bit6A, .bit7B, .bit7C, .bit7D, .bit7E, .bit7H, .bit7L, .bit7AtHl, .bit7A],
  #v[.res0B, .res0C, .res0D, .res0E, .res0H, .res0L, .res0AtHl, .res0A, .res1B, .res1C, .res1D, .res1E, .res1H, .res1L, .res1AtHl, .res1A],
  #v[.res2B, .res2C, .res2D, .res2E, .res2H, .res2L, .res2AtHl, .res2A, .res3B, .res3C, .res3D, .res3E, .res3H, .res3L, .res3AtHl, .res3A],
  #v[.res4B, .res4C, .res4D, .res4E, .res4H, .res4L, .res4AtHl, .res4A, .res5B, .res5C, .res5D, .res5E, .res5H, .res5L, .res5AtHl, .res5A],
  #v[.res6B, .res6C, .res6D, .res6E, .res6H, .res6L, .res6AtHl, .res6A, .res7B, .res7C, .res7D, .res7E, .res7H, .res7L, .res7AtHl, .res7A],
  #v[.set0B, .set0C, .set0D, .set0E, .set0H, .set0L, .set0AtHl, .set0A, .set1B, .set1C, .set1D, .set1E, .set1H, .set1L, .set1AtHl, .set1A],
  #v[.set2B, .set2C, .set2D, .set2E, .set2H, .set2L, .set2AtHl, .set2A, .set3B, .set3C, .set3D, .set3E, .set3H, .set3L, .set3AtHl, .set3A],
  #v[.set4B, .set4C, .set4D, .set4E, .set4H, .set4L, .set4AtHl, .set4A, .set5B, .set5C, .set5D, .set5E, .set5H, .set5L, .set5AtHl, .set5A],
  #v[.set6B, .set6C, .set6D, .set6E, .set6H, .set6L, .set6AtHl, .set6A, .set7B, .set7C, .set7D, .set7E, .set7H, .set7L, .set7AtHl, .set7A]]

/-- The primary entry of an opcode: its row is the high nibble, its column the low nibble. -/
def primary (op : Byte) : Entry :=
  (primaryGrid[op.toNat / 16]'(by have := op.isLt; omega))[op.toNat % 16]'(by omega)

/-- The secondary entry of the byte after 0xCB. All 256 are assigned (R91). -/
def secondary (op2 : Byte) : Instr :=
  (secondaryGrid[op2.toNat / 16]'(by have := op2.isLt; omega))[op2.toNat % 16]'(by omega)

/-- The bytes an entry takes, the opcode (and prefix) included (30_encoding.md R80, R81). -/
def Entry.length : Entry → Nat
  | .p1 _ => 1
  | .p2 _ => 2
  | .p3 _ => 3
  | .cb => 2

/-- "Its first byte alone fixes its length" (30_encoding.md R80). -/
def lengthOf (b0 : Byte) : Nat := (primary b0).length

/-- The instruction an entry names when b1 and b2 are the bytes after the opcode. A 16-bit immediate has its low byte first
(20_memory.md R55). -/
def Entry.instr (e : Entry) (b1 b2 : Byte) : Instr :=
  match e with
  | .p1 i => i
  | .p2 k => k b1
  | .p3 k => k (joinBytes b2 b1)
  | .cb => secondary b1

/-- The instruction that starts with the byte b0 and goes on with b1 and b2. Total: three bytes always suffice (R97). -/
def decode3 (b0 b1 b2 : Byte) : Instr := (primary b0).instr b1 b2

/-- Why a list of bytes holds no instruction. The fetch of a step never meets either: it reads as many bytes as the first
one asks for (log 10). -/
inductive DecodeError where
  /-- there is no byte -/
  | noBytes
  /-- the first byte asks for `needed` bytes and fewer are there -/
  | tooFewBytes (needed : Nat)
deriving DecidableEq, Repr

/-- The instruction at the head of a list of bytes, and the rest of the list. -/
def decode (bs : List Byte) : Except DecodeError (Instr × List Byte) :=
  match bs with
  | [] => .error .noBytes
  | b0 :: rest =>
    if bs.length < lengthOf b0 then .error (.tooFewBytes (lengthOf b0))
    else .ok (decode3 b0 (rest.getD 0 0) (rest.getD 1 0), bs.drop (lengthOf b0))

/-- The bytes of an instruction in fetch order, from the encodings of its rule and spec/opcode_table.json. -/
def encode (i : Instr) : List Byte :=
  match i with
  | .nop => [0x00]
  | .ldBcN16 n => [0x01, loByte n, hiByte n]
  | .ldAtBcA => [0x02]
  | .incBc => [0x03]
  | .incB => [0x04]
  | .decB => [0x05]
  | .ldBN8 n => [0x06, n]
  | .rlca => [0x07]
  | .ldAtN16Sp n => [0x08, loByte n, hiByte n]
  | .addHlBc => [0x09]
  | .ldAAtBc => [0x0A]
  | .decBc => [0x0B]
  | .incC => [0x0C]
  | .decC => [0x0D]
  | .ldCN8 n => [0x0E, n]
  | .rrca => [0x0F]
  | .stop x => [0x10, x]
  | .ldDeN16 n => [0x11, loByte n, hiByte n]
  | .ldAtDeA => [0x12]
  | .incDe => [0x13]
  | .incD => [0x14]
  | .decD => [0x15]
  | .ldDN8 n => [0x16, n]
  | .rla => [0x17]
  | .jrE8 e => [0x18, e]
  | .addHlDe => [0x19]
  | .ldAAtDe => [0x1A]
  | .decDe => [0x1B]
  | .incE => [0x1C]
  | .decE => [0x1D]
  | .ldEN8 n => [0x1E, n]
  | .rra => [0x1F]
  | .jrNzE8 e => [0x20, e]
  | .ldHlN16 n => [0x21, loByte n, hiByte n]
  | .ldAtHlIncA => [0x22]
  | .incHl => [0x23]
  | .incH => [0x24]
  | .decH => [0x25]
  | .ldHN8 n => [0x26, n]
  | .daa => [0x27]
  | .jrZE8 e => [0x28, e]
  | .addHlHl => [0x29]
  | .ldAAtHlInc => [0x2A]
  | .decHl => [0x2B]
  | .incL => [0x2C]
  | .decL => [0x2D]
  | .ldLN8 n => [0x2E, n]
  | .cpl => [0x2F]
  | .jrNcE8 e => [0x30, e]
  | .ldSpN16 n => [0x31, loByte n, hiByte n]
  | .ldAtHlDecA => [0x32]
  | .incSp => [0x33]
  | .incAtHl => [0x34]
  | .decAtHl => [0x35]
  | .ldAtHlN8 n => [0x36, n]
  | .scf => [0x37]
  | .jrCE8 e => [0x38, e]
  | .addHlSp => [0x39]
  | .ldAAtHlDec => [0x3A]
  | .decSp => [0x3B]
  | .incA => [0x3C]
  | .decA => [0x3D]
  | .ldAN8 n => [0x3E, n]
  | .ccf => [0x3F]
  | .ldBB => [0x40]
  | .ldBC => [0x41]
  | .ldBD => [0x42]
  | .ldBE => [0x43]
  | .ldBH => [0x44]
  | .ldBL => [0x45]
  | .ldBAtHl => [0x46]
  | .ldBA => [0x47]
  | .ldCB => [0x48]
  | .ldCC => [0x49]
  | .ldCD => [0x4A]
  | .ldCE => [0x4B]
  | .ldCH => [0x4C]
  | .ldCL => [0x4D]
  | .ldCAtHl => [0x4E]
  | .ldCA => [0x4F]
  | .ldDB => [0x50]
  | .ldDC => [0x51]
  | .ldDD => [0x52]
  | .ldDE => [0x53]
  | .ldDH => [0x54]
  | .ldDL => [0x55]
  | .ldDAtHl => [0x56]
  | .ldDA => [0x57]
  | .ldEB => [0x58]
  | .ldEC => [0x59]
  | .ldED => [0x5A]
  | .ldEE => [0x5B]
  | .ldEH => [0x5C]
  | .ldEL => [0x5D]
  | .ldEAtHl => [0x5E]
  | .ldEA => [0x5F]
  | .ldHB => [0x60]
  | .ldHC => [0x61]
  | .ldHD => [0x62]
  | .ldHE => [0x63]
  | .ldHH => [0x64]
  | .ldHL => [0x65]
  | .ldHAtHl => [0x66]
  | .ldHA => [0x67]
  | .ldLB => [0x68]
  | .ldLC => [0x69]
  | .ldLD => [0x6A]
  | .ldLE => [0x6B]
  | .ldLH => [0x6C]
  | .ldLL => [0x6D]
  | .ldLAtHl => [0x6E]
  | .ldLA => [0x6F]
  | .ldAtHlB => [0x70]
  | .ldAtHlC => [0x71]
  | .ldAtHlD => [0x72]
  | .ldAtHlE => [0x73]
  | .ldAtHlH => [0x74]
  | .ldAtHlL => [0x75]
  | .halt => [0x76]
  | .ldAtHlA => [0x77]
  | .ldAB => [0x78]
  | .ldAC => [0x79]
  | .ldAD => [0x7A]
  | .ldAE => [0x7B]
  | .ldAH => [0x7C]
  | .ldAL => [0x7D]
  | .ldAAtHl => [0x7E]
  | .ldAA => [0x7F]
  | .addAB => [0x80]
  | .addAC => [0x81]
  | .addAD => [0x82]
  | .addAE => [0x83]
  | .addAH => [0x84]
  | .addAL => [0x85]
  | .addAAtHl => [0x86]
  | .addAA => [0x87]
  | .adcAB => [0x88]
  | .adcAC => [0x89]
  | .adcAD => [0x8A]
  | .adcAE => [0x8B]
  | .adcAH => [0x8C]
  | .adcAL => [0x8D]
  | .adcAAtHl => [0x8E]
  | .adcAA => [0x8F]
  | .subAB => [0x90]
  | .subAC => [0x91]
  | .subAD => [0x92]
  | .subAE => [0x93]
  | .subAH => [0x94]
  | .subAL => [0x95]
  | .subAAtHl => [0x96]
  | .subAA => [0x97]
  | .sbcAB => [0x98]
  | .sbcAC => [0x99]
  | .sbcAD => [0x9A]
  | .sbcAE => [0x9B]
  | .sbcAH => [0x9C]
  | .sbcAL => [0x9D]
  | .sbcAAtHl => [0x9E]
  | .sbcAA => [0x9F]
  | .andAB => [0xA0]
  | .andAC => [0xA1]
  | .andAD => [0xA2]
  | .andAE => [0xA3]
  | .andAH => [0xA4]
  | .andAL => [0xA5]
  | .andAAtHl => [0xA6]
  | .andAA => [0xA7]
  | .xorAB => [0xA8]
  | .xorAC => [0xA9]
  | .xorAD => [0xAA]
  | .xorAE => [0xAB]
  | .xorAH => [0xAC]
  | .xorAL => [0xAD]
  | .xorAAtHl => [0xAE]
  | .xorAA => [0xAF]
  | .orAB => [0xB0]
  | .orAC => [0xB1]
  | .orAD => [0xB2]
  | .orAE => [0xB3]
  | .orAH => [0xB4]
  | .orAL => [0xB5]
  | .orAAtHl => [0xB6]
  | .orAA => [0xB7]
  | .cpAB => [0xB8]
  | .cpAC => [0xB9]
  | .cpAD => [0xBA]
  | .cpAE => [0xBB]
  | .cpAH => [0xBC]
  | .cpAL => [0xBD]
  | .cpAAtHl => [0xBE]
  | .cpAA => [0xBF]
  | .retNz => [0xC0]
  | .popBc => [0xC1]
  | .jpNzN16 n => [0xC2, loByte n, hiByte n]
  | .jpN16 n => [0xC3, loByte n, hiByte n]
  | .callNzN16 n => [0xC4, loByte n, hiByte n]
  | .pushBc => [0xC5]
  | .addAN8 n => [0xC6, n]
  | .rst00 => [0xC7]
  | .retZ => [0xC8]
  | .ret => [0xC9]
  | .jpZN16 n => [0xCA, loByte n, hiByte n]
  | .callZN16 n => [0xCC, loByte n, hiByte n]
  | .callN16 n => [0xCD, loByte n, hiByte n]
  | .adcAN8 n => [0xCE, n]
  | .rst08 => [0xCF]
  | .retNc => [0xD0]
  | .popDe => [0xD1]
  | .jpNcN16 n => [0xD2, loByte n, hiByte n]
  | .unassignedD3 => [0xD3]
  | .callNcN16 n => [0xD4, loByte n, hiByte n]
  | .pushDe => [0xD5]
  | .subAN8 n => [0xD6, n]
  | .rst10 => [0xD7]
  | .retC => [0xD8]
  | .reti => [0xD9]
  | .jpCN16 n => [0xDA, loByte n, hiByte n]
  | .unassignedDB => [0xDB]
  | .callCN16 n => [0xDC, loByte n, hiByte n]
  | .unassignedDD => [0xDD]
  | .sbcAN8 n => [0xDE, n]
  | .rst18 => [0xDF]
  | .ldhAtN8A n => [0xE0, n]
  | .popHl => [0xE1]
  | .ldAtCA => [0xE2]
  | .unassignedE3 => [0xE3]
  | .unassignedE4 => [0xE4]
  | .pushHl => [0xE5]
  | .andAN8 n => [0xE6, n]
  | .rst20 => [0xE7]
  | .addSpE8 e => [0xE8, e]
  | .jpHl => [0xE9]
  | .ldAtN16A n => [0xEA, loByte n, hiByte n]
  | .unassignedEB => [0xEB]
  | .unassignedEC => [0xEC]
  | .unassignedED => [0xED]
  | .xorAN8 n => [0xEE, n]
  | .rst28 => [0xEF]
  | .ldhAAtN8 n => [0xF0, n]
  | .popAf => [0xF1]
  | .ldAAtC => [0xF2]
  | .di => [0xF3]
  | .unassignedF4 => [0xF4]
  | .pushAf => [0xF5]
  | .orAN8 n => [0xF6, n]
  | .rst30 => [0xF7]
  | .ldHlSpE8 e => [0xF8, e]
  | .ldSpHl => [0xF9]
  | .ldAAtN16 n => [0xFA, loByte n, hiByte n]
  | .ei => [0xFB]
  | .unassignedFC => [0xFC]
  | .unassignedFD => [0xFD]
  | .cpAN8 n => [0xFE, n]
  | .rst38 => [0xFF]
  | .rlcB => [0xCB, 0x00]
  | .rlcC => [0xCB, 0x01]
  | .rlcD => [0xCB, 0x02]
  | .rlcE => [0xCB, 0x03]
  | .rlcH => [0xCB, 0x04]
  | .rlcL => [0xCB, 0x05]
  | .rlcAtHl => [0xCB, 0x06]
  | .rlcA => [0xCB, 0x07]
  | .rrcB => [0xCB, 0x08]
  | .rrcC => [0xCB, 0x09]
  | .rrcD => [0xCB, 0x0A]
  | .rrcE => [0xCB, 0x0B]
  | .rrcH => [0xCB, 0x0C]
  | .rrcL => [0xCB, 0x0D]
  | .rrcAtHl => [0xCB, 0x0E]
  | .rrcA => [0xCB, 0x0F]
  | .rlB => [0xCB, 0x10]
  | .rlC => [0xCB, 0x11]
  | .rlD => [0xCB, 0x12]
  | .rlE => [0xCB, 0x13]
  | .rlH => [0xCB, 0x14]
  | .rlL => [0xCB, 0x15]
  | .rlAtHl => [0xCB, 0x16]
  | .rlA => [0xCB, 0x17]
  | .rrB => [0xCB, 0x18]
  | .rrC => [0xCB, 0x19]
  | .rrD => [0xCB, 0x1A]
  | .rrE => [0xCB, 0x1B]
  | .rrH => [0xCB, 0x1C]
  | .rrL => [0xCB, 0x1D]
  | .rrAtHl => [0xCB, 0x1E]
  | .rrA => [0xCB, 0x1F]
  | .slaB => [0xCB, 0x20]
  | .slaC => [0xCB, 0x21]
  | .slaD => [0xCB, 0x22]
  | .slaE => [0xCB, 0x23]
  | .slaH => [0xCB, 0x24]
  | .slaL => [0xCB, 0x25]
  | .slaAtHl => [0xCB, 0x26]
  | .slaA => [0xCB, 0x27]
  | .sraB => [0xCB, 0x28]
  | .sraC => [0xCB, 0x29]
  | .sraD => [0xCB, 0x2A]
  | .sraE => [0xCB, 0x2B]
  | .sraH => [0xCB, 0x2C]
  | .sraL => [0xCB, 0x2D]
  | .sraAtHl => [0xCB, 0x2E]
  | .sraA => [0xCB, 0x2F]
  | .swapB => [0xCB, 0x30]
  | .swapC => [0xCB, 0x31]
  | .swapD => [0xCB, 0x32]
  | .swapE => [0xCB, 0x33]
  | .swapH => [0xCB, 0x34]
  | .swapL => [0xCB, 0x35]
  | .swapAtHl => [0xCB, 0x36]
  | .swapA => [0xCB, 0x37]
  | .srlB => [0xCB, 0x38]
  | .srlC => [0xCB, 0x39]
  | .srlD => [0xCB, 0x3A]
  | .srlE => [0xCB, 0x3B]
  | .srlH => [0xCB, 0x3C]
  | .srlL => [0xCB, 0x3D]
  | .srlAtHl => [0xCB, 0x3E]
  | .srlA => [0xCB, 0x3F]
  | .bit0B => [0xCB, 0x40]
  | .bit0C => [0xCB, 0x41]
  | .bit0D => [0xCB, 0x42]
  | .bit0E => [0xCB, 0x43]
  | .bit0H => [0xCB, 0x44]
  | .bit0L => [0xCB, 0x45]
  | .bit0AtHl => [0xCB, 0x46]
  | .bit0A => [0xCB, 0x47]
  | .bit1B => [0xCB, 0x48]
  | .bit1C => [0xCB, 0x49]
  | .bit1D => [0xCB, 0x4A]
  | .bit1E => [0xCB, 0x4B]
  | .bit1H => [0xCB, 0x4C]
  | .bit1L => [0xCB, 0x4D]
  | .bit1AtHl => [0xCB, 0x4E]
  | .bit1A => [0xCB, 0x4F]
  | .bit2B => [0xCB, 0x50]
  | .bit2C => [0xCB, 0x51]
  | .bit2D => [0xCB, 0x52]
  | .bit2E => [0xCB, 0x53]
  | .bit2H => [0xCB, 0x54]
  | .bit2L => [0xCB, 0x55]
  | .bit2AtHl => [0xCB, 0x56]
  | .bit2A => [0xCB, 0x57]
  | .bit3B => [0xCB, 0x58]
  | .bit3C => [0xCB, 0x59]
  | .bit3D => [0xCB, 0x5A]
  | .bit3E => [0xCB, 0x5B]
  | .bit3H => [0xCB, 0x5C]
  | .bit3L => [0xCB, 0x5D]
  | .bit3AtHl => [0xCB, 0x5E]
  | .bit3A => [0xCB, 0x5F]
  | .bit4B => [0xCB, 0x60]
  | .bit4C => [0xCB, 0x61]
  | .bit4D => [0xCB, 0x62]
  | .bit4E => [0xCB, 0x63]
  | .bit4H => [0xCB, 0x64]
  | .bit4L => [0xCB, 0x65]
  | .bit4AtHl => [0xCB, 0x66]
  | .bit4A => [0xCB, 0x67]
  | .bit5B => [0xCB, 0x68]
  | .bit5C => [0xCB, 0x69]
  | .bit5D => [0xCB, 0x6A]
  | .bit5E => [0xCB, 0x6B]
  | .bit5H => [0xCB, 0x6C]
  | .bit5L => [0xCB, 0x6D]
  | .bit5AtHl => [0xCB, 0x6E]
  | .bit5A => [0xCB, 0x6F]
  | .bit6B => [0xCB, 0x70]
  | .bit6C => [0xCB, 0x71]
  | .bit6D => [0xCB, 0x72]
  | .bit6E => [0xCB, 0x73]
  | .bit6H => [0xCB, 0x74]
  | .bit6L => [0xCB, 0x75]
  | .bit6AtHl => [0xCB, 0x76]
  | .bit6A => [0xCB, 0x77]
  | .bit7B => [0xCB, 0x78]
  | .bit7C => [0xCB, 0x79]
  | .bit7D => [0xCB, 0x7A]
  | .bit7E => [0xCB, 0x7B]
  | .bit7H => [0xCB, 0x7C]
  | .bit7L => [0xCB, 0x7D]
  | .bit7AtHl => [0xCB, 0x7E]
  | .bit7A => [0xCB, 0x7F]
  | .res0B => [0xCB, 0x80]
  | .res0C => [0xCB, 0x81]
  | .res0D => [0xCB, 0x82]
  | .res0E => [0xCB, 0x83]
  | .res0H => [0xCB, 0x84]
  | .res0L => [0xCB, 0x85]
  | .res0AtHl => [0xCB, 0x86]
  | .res0A => [0xCB, 0x87]
  | .res1B => [0xCB, 0x88]
  | .res1C => [0xCB, 0x89]
  | .res1D => [0xCB, 0x8A]
  | .res1E => [0xCB, 0x8B]
  | .res1H => [0xCB, 0x8C]
  | .res1L => [0xCB, 0x8D]
  | .res1AtHl => [0xCB, 0x8E]
  | .res1A => [0xCB, 0x8F]
  | .res2B => [0xCB, 0x90]
  | .res2C => [0xCB, 0x91]
  | .res2D => [0xCB, 0x92]
  | .res2E => [0xCB, 0x93]
  | .res2H => [0xCB, 0x94]
  | .res2L => [0xCB, 0x95]
  | .res2AtHl => [0xCB, 0x96]
  | .res2A => [0xCB, 0x97]
  | .res3B => [0xCB, 0x98]
  | .res3C => [0xCB, 0x99]
  | .res3D => [0xCB, 0x9A]
  | .res3E => [0xCB, 0x9B]
  | .res3H => [0xCB, 0x9C]
  | .res3L => [0xCB, 0x9D]
  | .res3AtHl => [0xCB, 0x9E]
  | .res3A => [0xCB, 0x9F]
  | .res4B => [0xCB, 0xA0]
  | .res4C => [0xCB, 0xA1]
  | .res4D => [0xCB, 0xA2]
  | .res4E => [0xCB, 0xA3]
  | .res4H => [0xCB, 0xA4]
  | .res4L => [0xCB, 0xA5]
  | .res4AtHl => [0xCB, 0xA6]
  | .res4A => [0xCB, 0xA7]
  | .res5B => [0xCB, 0xA8]
  | .res5C => [0xCB, 0xA9]
  | .res5D => [0xCB, 0xAA]
  | .res5E => [0xCB, 0xAB]
  | .res5H => [0xCB, 0xAC]
  | .res5L => [0xCB, 0xAD]
  | .res5AtHl => [0xCB, 0xAE]
  | .res5A => [0xCB, 0xAF]
  | .res6B => [0xCB, 0xB0]
  | .res6C => [0xCB, 0xB1]
  | .res6D => [0xCB, 0xB2]
  | .res6E => [0xCB, 0xB3]
  | .res6H => [0xCB, 0xB4]
  | .res6L => [0xCB, 0xB5]
  | .res6AtHl => [0xCB, 0xB6]
  | .res6A => [0xCB, 0xB7]
  | .res7B => [0xCB, 0xB8]
  | .res7C => [0xCB, 0xB9]
  | .res7D => [0xCB, 0xBA]
  | .res7E => [0xCB, 0xBB]
  | .res7H => [0xCB, 0xBC]
  | .res7L => [0xCB, 0xBD]
  | .res7AtHl => [0xCB, 0xBE]
  | .res7A => [0xCB, 0xBF]
  | .set0B => [0xCB, 0xC0]
  | .set0C => [0xCB, 0xC1]
  | .set0D => [0xCB, 0xC2]
  | .set0E => [0xCB, 0xC3]
  | .set0H => [0xCB, 0xC4]
  | .set0L => [0xCB, 0xC5]
  | .set0AtHl => [0xCB, 0xC6]
  | .set0A => [0xCB, 0xC7]
  | .set1B => [0xCB, 0xC8]
  | .set1C => [0xCB, 0xC9]
  | .set1D => [0xCB, 0xCA]
  | .set1E => [0xCB, 0xCB]
  | .set1H => [0xCB, 0xCC]
  | .set1L => [0xCB, 0xCD]
  | .set1AtHl => [0xCB, 0xCE]
  | .set1A => [0xCB, 0xCF]
  | .set2B => [0xCB, 0xD0]
  | .set2C => [0xCB, 0xD1]
  | .set2D => [0xCB, 0xD2]
  | .set2E => [0xCB, 0xD3]
  | .set2H => [0xCB, 0xD4]
  | .set2L => [0xCB, 0xD5]
  | .set2AtHl => [0xCB, 0xD6]
  | .set2A => [0xCB, 0xD7]
  | .set3B => [0xCB, 0xD8]
  | .set3C => [0xCB, 0xD9]
  | .set3D => [0xCB, 0xDA]
  | .set3E => [0xCB, 0xDB]
  | .set3H => [0xCB, 0xDC]
  | .set3L => [0xCB, 0xDD]
  | .set3AtHl => [0xCB, 0xDE]
  | .set3A => [0xCB, 0xDF]
  | .set4B => [0xCB, 0xE0]
  | .set4C => [0xCB, 0xE1]
  | .set4D => [0xCB, 0xE2]
  | .set4E => [0xCB, 0xE3]
  | .set4H => [0xCB, 0xE4]
  | .set4L => [0xCB, 0xE5]
  | .set4AtHl => [0xCB, 0xE6]
  | .set4A => [0xCB, 0xE7]
  | .set5B => [0xCB, 0xE8]
  | .set5C => [0xCB, 0xE9]
  | .set5D => [0xCB, 0xEA]
  | .set5E => [0xCB, 0xEB]
  | .set5H => [0xCB, 0xEC]
  | .set5L => [0xCB, 0xED]
  | .set5AtHl => [0xCB, 0xEE]
  | .set5A => [0xCB, 0xEF]
  | .set6B => [0xCB, 0xF0]
  | .set6C => [0xCB, 0xF1]
  | .set6D => [0xCB, 0xF2]
  | .set6E => [0xCB, 0xF3]
  | .set6H => [0xCB, 0xF4]
  | .set6L => [0xCB, 0xF5]
  | .set6AtHl => [0xCB, 0xF6]
  | .set6A => [0xCB, 0xF7]
  | .set7B => [0xCB, 0xF8]
  | .set7C => [0xCB, 0xF9]
  | .set7D => [0xCB, 0xFA]
  | .set7E => [0xCB, 0xFB]
  | .set7H => [0xCB, 0xFC]
  | .set7L => [0xCB, 0xFD]
  | .set7AtHl => [0xCB, 0xFE]
  | .set7A => [0xCB, 0xFF]

/-- The bytes of a table word. spec/opcode_table.json writes a CB row as the one number 0xCBNN, the prefix in bits 15 to 8
(00_scope.md R8: "or 0xCBNN in opcode_table.json"), so a 16-bit word with 0xCB there has its prefix first; every other word
has its first byte in bits 7 to 0 and later bytes above it (log 11). Bits from nbits upward are 0. -/
def tableBytes (nbits w : Nat) : List Byte :=
  let v := w % 2 ^ nbits
  if nbits = 16 ∧ v / 256 = 0xCB then [0xCB, BitVec.ofNat 8 v, 0]
  else [BitVec.ofNat 8 v, BitVec.ofNat 8 (v / 256), BitVec.ofNat 8 (v / 65536)]

/-- The instruction the decoder reads from a table word's bytes. -/
def decodeTableWord (nbits w : Nat) : Option Instr :=
  match decode (tableBytes nbits w) with
  | .ok (i, _) => some i
  | .error _ => none

end Sys2Proof
end

