-- ==== Sys2Proof/Machine/State.lean ====
section
/-! DEFINITION. The state of the core (10_state.md R20 to R38, 20_memory.md R50), the reasons a step stops, and the state after
creation. State is plain data. -/

namespace Sys2Proof.Machine

/-- The dispatch engine's two states (10_state.md R33). -/
inductive DispatchState where
  /-- the initial state, and the state between steps -/
  | primaryFetch
  /-- entered by the prefix 0xCB, left when the secondary handler ends -/
  | cbFetch
deriving DecidableEq, Repr

/-- The outcome a step that completes ends with (60_exceptions.md R300). The fourth outcome of R300, Fault, is the machine's
fault. -/
inductive StepOutcome where
  | ok
  | halted
  | stopped
deriving DecidableEq, Repr

/-- One transfer on the core's bus, one byte wide (20_memory.md R57). -/
inductive Access where
  /-- `read_byte(addr)` -/
  | read (addr : Word)
  /-- `write_byte(addr, v)` -/
  | write (addr : Word) (v : Byte)
deriving DecidableEq, Repr

/-- The 65536 byte cells of 20_memory.md R50: the cells that hold another byte than an unlisted cell does, by rising
address. Machine/Ops.lean has its operations and its canonical form. -/
abbrev Memory := List Host.Cell

/-- The parameter BUS (00_scope.md R7, D24; log 6): whose `read_byte` and `write_byte` the core's accesses call. -/
inductive Bus where
  /-- the spec's default, plain RAM (20_memory.md R50) -/
  | plainRam
  /-- a collaborator's accessors (20_memory.md R58, D28), with the state the collaborator is in; its cells are part of that
  state, and the accessors are Config.collaboratorRead and Config.collaboratorWrite -/
  | collaborator (state : Nat)
deriving DecidableEq, Repr

/-- The state of the core. Fields a to ime and mem are the tuple of 10_state.md R20. -/
structure State where
  /-- the accumulator (R21) -/
  a : Byte
  b : Byte
  c : Byte
  d : Byte
  e : Byte
  h : Byte
  l : Byte
  /-- the stack pointer (R25) -/
  sp : Word
  /-- the program counter: between steps and during a step the address of the instruction's first byte (R26) -/
  pc : Word
  /-- the zero flag ZF (R27) -/
  zf : Bool
  /-- the carry flag CF (R28) -/
  cf : Bool
  /-- the interrupt master enable IME (R31) -/
  ime : Bool
  /-- the memory behind the byte accessors of the default BUS (20_memory.md R50; log 2) -/
  mem : Memory
  /-- the parameter BUS, and a collaborator's own state if it is not the default (00_scope.md R7, 20_memory.md R58; log 6) -/
  accessors : Bus
  /-- the dispatch engine's state (R33; log 7) -/
  dispatch : DispatchState
  /-- the cycle budget: argument and result of step, an unbounded integer (R34, D26; log 4) -/
  cycles : Int
  /-- the outcome tag of the last step (60_exceptions.md R300; log 4) -/
  outcome : StepOutcome
  /-- the machine's parameters, which no step writes (00_scope.md R7; log 3) -/
  config : Config
  /-- the model's own: the accesses of the step, in the order of 20_memory.md R59 (log 5) -/
  bus : List Access
deriving DecidableEq, Repr

/-- The reasons the machine stops with a fault. -/
inductive Fault where
  /-- UnimplementedOpcode (60_exceptions.md R301): raised by the eleven unassigned primary opcodes and by daa. The record
  holds the opcode byte, whether the prefix came before it (always false: R301), and the address of the opcode byte. Safe: the
  spec itself ends the step so, and no state changes. -/
  | unimplementedOpcode (opcode : Byte) (prefixed : Bool) (pc : Word)
deriving DecidableEq, Repr

/-- The reasons the model refuses an instruction. -/
inductive Refusal where
  /-- Raised by an arm of exec whose instruction has no meaning in the model. Safe. No arm of this model raises it. -/
  | notModelled (mnemonic : String)
deriving DecidableEq, Repr

/-- What a step or an instruction's meaning answers. -/
abbrev Result := Host.Outcome State Fault Refusal

/-- Creation of the state (10_state.md R38, 70_reset_and_hazards.md R330, R332): registers, flags and IME from RESET_STATE, the
accessors of BUS, memory MEM0, dispatch state Primary-Fetch. The budget is 0 until a step or run supplies one, the outcome Ok, the bus idle (log 4,
log 5). -/
def State.create (g : Config) (r : ResetState) (bus : Bus) (mem0 : Memory) : State :=
  { a := r.a, b := r.b, c := r.c, d := r.d, e := r.e, h := r.h, l := r.l, sp := r.sp, pc := r.pc,
    zf := r.zf, cf := r.cf, ime := r.ime, mem := mem0, accessors := bus, dispatch := .primaryFetch, cycles := 0, outcome := .ok,
    config := g, bus := [] }

/-- The state after reset, for the model's choice of the parameters: RESET_STATE all zero (log 1), MEM0 with nothing listed
(log 2), BUS and RET_CC_TAKEN_COST the spec's defaults (R7; log 6, log 3). -/
def State.reset : State := State.create Config.default ResetState.zero .plainRam []

end Sys2Proof.Machine
end

