-- ==== Sys2Proof/Machine/Ops.lean ====
section
/-! DEFINITION. The named operations over memory and state that the meanings share: byte and word accesses, the stack, the end of a
step, the one fault, and the entry into and return from a handler. -/

namespace Sys2Proof.Machine

/-- What an unlisted cell reads as. DESIGN CHOICE, unsafe (log 2): the spec leaves MEM0 open. -/
def Memory.unlisted : Byte := 0x00

/-- The byte of a cell. -/
def Memory.read : Memory → Nat → Byte
  | [], _ => Memory.unlisted
  | (k, w) :: m, a => if k = a then w else Memory.read m a

/-- Write a cell, keeping the addresses rising and listing no cell that holds the unlisted byte. -/
def Memory.write : Memory → Nat → Byte → Memory
  | [], a, v => if v = Memory.unlisted then [] else [(a, v)]
  | (k, w) :: m, a, v =>
    if k < a then (k, w) :: Memory.write m a v
    else if k = a then (if v = Memory.unlisted then m else (a, v) :: m)
    else if v = Memory.unlisted then (k, w) :: m
    else (a, v) :: (k, w) :: m

/-- The canonical form from the address lo on: rising addresses of the space of 20_memory.md R50, none holding the unlisted
byte. -/
def Memory.wfFrom : Nat → Memory → Bool
  | _, [] => true
  | lo, (k, w) :: m =>
    decide (lo ≤ k) && decide (k < 65536) && decide (w ≠ Memory.unlisted) && Memory.wfFrom (k + 1) m

/-- The canonical form of a memory: equal memories are equal lists. -/
def Memory.wf (m : Memory) : Bool := Memory.wfFrom 0 m

/-- Write bytes at addr, addr +16 1, and so on. -/
def Memory.writeBytes : Memory → Word → List Byte → Memory
  | m, _, [] => m
  | m, addr, v :: vs => Memory.writeBytes (m.write addr.toNat v) (addr + 1) vs

/-- The byte `read_byte(addr)` returns: of the plain RAM's cells m, or of the collaborator (20_memory.md R51, R58). -/
def Bus.byteAt (b : Bus) (m : Memory) (addr : Word) : Byte :=
  match b with
  | .plainRam => m.read addr.toNat
  | .collaborator k => (Config.collaboratorRead k addr).1

/-- BUS after `read_byte(addr)`: plain RAM has no side effect, a collaborator may have one (20_memory.md R58). -/
def Bus.afterRead (b : Bus) (addr : Word) : Bus :=
  match b with
  | .plainRam => .plainRam
  | .collaborator k => .collaborator (Config.collaboratorRead k addr).2

/-- BUS after `write_byte(addr, v)`. -/
def Bus.afterWrite (b : Bus) (addr : Word) (v : Byte) : Bus :=
  match b with
  | .plainRam => .plainRam
  | .collaborator k => .collaborator (Config.collaboratorWrite k addr v)

/-- The plain RAM's cells after `write_byte(addr, v)`; a collaborator's BUS has its own. -/
def Bus.cellsAfterWrite (b : Bus) (m : Memory) (addr : Word) (v : Byte) : Memory :=
  match b with
  | .plainRam => m.write addr.toNat v
  | .collaborator _ => m

/-- The byte that `read_byte(addr)` would return now (20_memory.md R51), without the access. -/
def State.peek (s : State) (addr : Word) : Byte := s.accessors.byteAt s.mem addr

/-- What a `read_byte(addr)` call does, whoever makes it: BUS moves, nothing is recorded. -/
def State.afterRead (s : State) (addr : Word) : State := { s with accessors := s.accessors.afterRead addr }

/-- What a `write_byte(addr, v)` call does, whoever makes it: the cells and BUS move, nothing is recorded. -/
def State.store (s : State) (addr : Word) (v : Byte) : State :=
  { s with mem := s.accessors.cellsAfterWrite s.mem addr v, accessors := s.accessors.afterWrite addr v }

/-- `MemRead(addr, 1)` (00_scope.md R11): the byte, and the state after the core's access, which the record holds. -/
def State.readByte (s : State) (addr : Word) : Byte × State :=
  (s.peek addr, { s with accessors := s.accessors.afterRead addr, bus := s.bus ++ [.read addr] })

/-- `MemWrite(addr, 1, v)` (00_scope.md R11). -/
def State.writeByte (s : State) (addr : Word) (v : Byte) : State :=
  { s with
    mem := s.accessors.cellsAfterWrite s.mem addr v, accessors := s.accessors.afterWrite addr v, bus := s.bus ++ [.write addr v] }

/-- `MemRead(addr, 2)` (00_scope.md R11, 20_memory.md R52): the low byte at addr, then the high byte at addr +16 1. -/
def State.readWord (s : State) (addr : Word) : Word × State :=
  let lo := s.readByte addr
  let hi := lo.2.readByte (addr + 1)
  (joinBytes hi.1 lo.1, hi.2)

/-- `MemWrite(addr, 2, v)` (00_scope.md R11, 20_memory.md R53): the low byte at addr, then the high byte at addr +16 1. -/
def State.writeWord (s : State) (addr v : Word) : State :=
  (s.writeByte addr (loByte v)).writeByte (addr + 1) (hiByte v)

/-- `Push16(v)` (40_loads.md R130). -/
def State.push16 (s : State) (v : Word) : State :=
  { s with sp := s.sp - 2 }.writeWord (s.sp - 2) v

/-- `Pop16()` (40_loads.md R131). -/
def State.pop16 (s : State) : Word × State :=
  let w := s.readWord s.sp
  (w.1, { w.2 with sp := s.sp + 2 })

/-- The end of a step with an outcome (30_encoding.md R94, 00_scope.md R13): `pc <- target`, the cost leaves the budget, the
dispatch engine is back in Primary-Fetch (10_state.md R33). -/
def State.retireAs (s : State) (o : StepOutcome) (target : Word) (cost : Nat) : State :=
  { s with pc := target, cycles := s.cycles - cost, outcome := o, dispatch := .primaryFetch }

/-- The end of a step whose rule names no outcome: Ok (00_scope.md R13). -/
def State.retire (s : State) (target : Word) (cost : Nat) : State := s.retireAs .ok target cost

/-- `raise UnimplementedOpcode(opcode, prefixed, pc = PC)` (60_exceptions.md R301). There is no vector, no handler and no
saved register (R307): the step ends with the record and changes no state. -/
def raiseUnimplemented (opcode : Byte) (prefixed : Bool) (s : State) : Result :=
  .fault (.unimplementedOpcode opcode prefixed s.pc)

/-- The caller's entry into a handler between steps (60_exceptions.md R305, item 3): `SP <- SP -16 2; write_word(SP,
return_pc)`, in the order of 40_loads.md R130, then the handler address is the next pc. The return address is the pc the next step
would have had. The caller's accesses are not the core's and are not on its record. -/
def State.enterHandler (s : State) (handler : Word) : State :=
  { (s.store (s.sp - 2) (loByte s.pc)).store (s.sp - 2 + 1) (hiByte s.pc) with sp := s.sp - 2, pc := handler }

/-- The return from a handler that reti makes (43_control.md R220, 60_exceptions.md R308): the popped address, and the state
with SP moved and IME set. -/
def State.leaveHandler (s : State) : Word × State :=
  let t := s.pop16
  (t.1, { t.2 with ime := true })

end Sys2Proof.Machine
end

