-- ==== Sys2Proof/Machine/Operands.lean ====
section
/-! DEFINITION. The operand forms: registers by their codes (30_encoding.md R82 to R85), pairs (10_state.md R23), addresses and
displacements (30_encoding.md R89). -/

namespace Sys2Proof.Machine

/-- `R8[r]` (00_scope.md R10, 30_encoding.md R82). -/
def State.getR8 (s : State) (r : R8) : Byte :=
  match r with
  | .b => s.b
  | .c => s.c
  | .d => s.d
  | .e => s.e
  | .h => s.h
  | .l => s.l
  | .a => s.a

/-- `R8[r] <- v`. -/
def State.setR8 (s : State) (r : R8) (v : Byte) : State :=
  match r with
  | .b => { s with b := v }
  | .c => { s with c := v }
  | .d => { s with d := v }
  | .e => { s with e := v }
  | .h => { s with h := v }
  | .l => { s with l := v }
  | .a => { s with a := v }

/-- `BC = B ++ C` (10_state.md R23). -/
def State.bc (s : State) : Word := joinBytes s.b s.c

/-- `DE = D ++ E` (10_state.md R23). -/
def State.de (s : State) : Word := joinBytes s.d s.e

/-- `HL = H ++ L` (10_state.md R23), the address of every [hl] form. -/
def State.hl (s : State) : Word := joinBytes s.h s.l

/-- Reading a register pair (10_state.md R23). -/
def State.getPair (s : State) (q : Pair) : Word :=
  match q with
  | .bc => s.bc
  | .de => s.de
  | .hl => s.hl

/-- Writing a register pair: both halves in the same step (10_state.md R23). -/
def State.setPair (s : State) (q : Pair) (v : Word) : State :=
  match q with
  | .bc => { s with b := hiByte v, c := loByte v }
  | .de => { s with d := hiByte v, e := loByte v }
  | .hl => { s with h := hiByte v, l := loByte v }

/-- `R16[ss]` (10_state.md R23, 30_encoding.md R83). -/
def State.getR16 (s : State) (ss : R16) : Word :=
  match ss with
  | .bc => s.bc
  | .de => s.de
  | .hl => s.hl
  | .sp => s.sp

/-- `R16[ss] <- v`: "For ss = 3 it reads and writes SP itself" (10_state.md R23). -/
def State.setR16 (s : State) (ss : R16) (v : Word) : State :=
  match ss with
  | .bc => s.setPair .bc v
  | .de => s.setPair .de v
  | .hl => s.setPair .hl v
  | .sp => { s with sp := v }

/-- `cond(cc)`, on the flags as they stand (30_encoding.md R85). -/
def State.cond (s : State) (cc : Cond) : Bool :=
  match cc with
  | .nz => !s.zf
  | .z => s.zf
  | .nc => !s.cf
  | .c => s.cf

/-- The address `0xFF00 + off` of ldh and of `[c]` (30_encoding.md R89). It never leaves the page. -/
def pageAddr (off : Byte) : Word := joinBytes 0xFF off

/-- `sext_16(v)` (00_scope.md R9): the two's-complement displacement of add sp and ld hl, sp+e8. -/
def sext16 (v : Byte) : Word := v.signExtend 16

/-- `jrdisp(off)` (43_control.md R210): 128 is +128, not -128. -/
def jrDisp (off : Byte) : Int := if off.toNat > 128 then (off.toNat : Int) - 256 else off.toNat

/-- `jrtarget(pc, off)` (43_control.md R210). -/
def jrTarget (pc : Word) (off : Byte) : Word := BitVec.ofInt 16 ((pc.toNat : Int) + 2 + jrDisp off)

/-- The restart target `t * 8` (30_encoding.md R88). -/
def restartTarget (t : Fin 8) : Word := BitVec.ofNat 16 (t.val * 8)

end Sys2Proof.Machine
end

