-- ==== Sys2Proof/Machine/Flags.lean ====
section
/-! DEFINITION. Every computation of a result with its flags: the sums are taken as exact integers and narrowed at the end. -/

namespace Sys2Proof.Machine

/-- `bool(res == 0)`, the zero flag of a result (10_state.md R27). -/
def isZero (res : Byte) : Bool := res == 0

/-- `Fbyte = (ZF << 7) | (CF << 4)` (10_state.md R24, D13): bits 6, 5 and 3 to 0 are 0. -/
def flagByte (zf cf : Bool) : Byte := (if zf then 0x80 else 0) ||| (if cf then 0x10 else 0)

/-- ZF of a popped flag byte, `v[7]` (10_state.md R24). -/
def flagByteZ (v : Byte) : Bool := v.getLsbD 7

/-- CF of a popped flag byte, `v[4]` (10_state.md R24). -/
def flagByteC (v : Byte) : Bool := v.getLsbD 4

/-- `add8(x, y, cin)`: (res, z, c) (41_alu8.md R150). -/
def add8 (x y : Byte) (cin : Bool) : Byte × Bool × Bool :=
  let s : Nat := x.toNat + y.toNat + cin.toNat
  let res := BitVec.ofNat 8 s
  (res, isZero res, decide (s > 0xFF))

/-- `sub8(x, y, cin)`: (res, z, c), c the borrow (41_alu8.md R151). -/
def sub8 (x y : Byte) (cin : Bool) : Byte × Bool × Bool :=
  let d : Int := (x.toNat : Int) - y.toNat - cin.toNat
  let res := BitVec.ofInt 8 d
  (res, isZero res, decide (d < 0))

/-- A bitwise result: zero from it, carry cleared unconditionally (41_alu8.md section 3). -/
def logic8 (res : Byte) : Byte × Bool × Bool := (res, isZero res, false)

/-- An accumulator operation on A, the operand and CF: what A becomes, ZF and CF (41_alu8.md R156 to R179). cp leaves A. -/
def alu8 (op : AluOp) (acc v : Byte) (cf : Bool) : Byte × Bool × Bool :=
  match op with
  | .add => add8 acc v false
  | .adc => add8 acc v cf
  | .sub => sub8 acc v false
  | .sbc => sub8 acc v cf
  | .and => logic8 (acc &&& v)
  | .xor => logic8 (acc ^^^ v)
  | .or => logic8 (acc ||| v)
  | .cp => (acc, (sub8 acc v false).2)

/-- A bit as the byte 0 or 1. -/
def bitByte (c : Bool) : Byte := if c then 1 else 0

/-- `shift(op, v, cin)`: (res, c) (45_rotate_cb.md R264). -/
def shift8 (op : ShiftOp) (v : Byte) (cin : Bool) : Byte × Bool :=
  match op with
  | .rlc => ((v <<< 1) ||| bitByte (v.getLsbD 7), v.getLsbD 7)
  | .rrc => ((v >>> 1) ||| (bitByte (v.getLsbD 0) <<< 7), v.getLsbD 0)
  | .rl => ((v <<< 1) ||| bitByte cin, v.getLsbD 7)
  | .rr => ((v >>> 1) ||| (bitByte cin <<< 7), v.getLsbD 0)
  | .sla => (v <<< 1, v.getLsbD 7)
  | .sra => ((v >>> 1) ||| (v &&& 0x80), v.getLsbD 0)
  | .swap => (((v &&& 0x0F) <<< 4) ||| (v >>> 4), false)
  | .srl => (v >>> 1, v.getLsbD 0)

/-- The byte with bit n alone, `1 << b` (45_rotate_cb.md R283). -/
def bitMask (n : Fin 8) : Byte := 1#8 <<< n.val

/-- `addspe(sp, b)`: (res, c), c the carry out of bit 7 of the unsigned low-byte sum (42_alu16.md R190). -/
def addSpE8 (sp : Word) (b : Byte) : Word × Bool :=
  (sp + sext16 b, decide ((loByte sp).toNat + b.toNat > 0xFF))

/-- The 16-bit sum of `add hl, ss` and its carry out of bit 15 (42_alu16.md R193). -/
def add16 (x y : Word) : Word × Bool :=
  let s : Nat := x.toNat + y.toNat
  (BitVec.ofNat 16 s, decide (s ≥ 0x10000))

/-- The ripple increment across the two halves of a pair, as the document gives it (42_alu16.md R191). -/
def rippleInc (v : Word) : Word :=
  let lo := loByte v + 1
  let hi := hiByte v + bitByte (lo == 0)
  joinBytes hi lo

/-- The ripple decrement across the two halves of a pair (42_alu16.md R192). -/
def rippleDec (v : Word) : Word :=
  let lo := loByte v - 1
  let hi := hiByte v - bitByte (lo == 0xFF)
  joinBytes hi lo

end Sys2Proof.Machine
end

