-- ==== Sys2Proof/Machine/Alu16.lean ====
section
/-! DEFINITION. 16-bit arithmetic (42_alu16.md R190 to R195): the shared operations, then a meaning for each opcode. -/

namespace Sys2Proof.Machine

/-- `inc ss` (42_alu16.md R191): the ripple for a pair, `SP +16 1` for SP. No flag is written. -/
def incR16 (ss : R16) (s : State) : Result :=
  .next ((s.setR16 ss (if ss = .sp then s.sp + 1 else rippleInc (s.getR16 ss))).retire (s.pc + 1) 2)

/-- `dec ss` (42_alu16.md R192). -/
def decR16 (ss : R16) (s : State) : Result :=
  .next ((s.setR16 ss (if ss = .sp then s.sp - 1 else rippleDec (s.getR16 ss))).retire (s.pc + 1) 2)

/-- `add hl, ss` (42_alu16.md R193): ZF is not touched (90_conflicts.md C3). -/
def addHlR16 (ss : R16) (s : State) : Result :=
  let v := add16 s.hl (s.getR16 ss)
  .next ({ s.setPair .hl v.1 with cf := v.2 }.retire (s.pc + 1) 2)

/-- `add sp, e8` (42_alu16.md R194). -/
def addSpImm (e : Byte) (s : State) : Result :=
  let v := addSpE8 s.sp e
  .next ({ s with sp := v.1, zf := false, cf := v.2 }.retire (s.pc + 2) 4)

/-- `ld hl, sp+e8` (42_alu16.md R195). -/
def ldHlSpImm (e : Byte) (s : State) : Result :=
  let v := addSpE8 s.sp e
  .next ({ s.setPair .hl v.1 with zf := false, cf := v.2 }.retire (s.pc + 2) 3)

/-- 0x03 `inc bc` (R191). -/
def execIncBc (s : State) : Result := incR16 .bc s

/-- 0x09 `add hl, bc` (R193). -/
def execAddHlBc (s : State) : Result := addHlR16 .bc s

/-- 0x0B `dec bc` (R192). -/
def execDecBc (s : State) : Result := decR16 .bc s

/-- 0x13 `inc de` (R191). -/
def execIncDe (s : State) : Result := incR16 .de s

/-- 0x19 `add hl, de` (R193). -/
def execAddHlDe (s : State) : Result := addHlR16 .de s

/-- 0x1B `dec de` (R192). -/
def execDecDe (s : State) : Result := decR16 .de s

/-- 0x23 `inc hl` (R191). -/
def execIncHl (s : State) : Result := incR16 .hl s

/-- 0x29 `add hl, hl` (R193). -/
def execAddHlHl (s : State) : Result := addHlR16 .hl s

/-- 0x2B `dec hl` (R192). -/
def execDecHl (s : State) : Result := decR16 .hl s

/-- 0x33 `inc sp` (R191). -/
def execIncSp (s : State) : Result := incR16 .sp s

/-- 0x39 `add hl, sp` (R193). -/
def execAddHlSp (s : State) : Result := addHlR16 .sp s

/-- 0x3B `dec sp` (R192). -/
def execDecSp (s : State) : Result := decR16 .sp s

/-- 0xE8 `add sp, e8` (R194). -/
def execAddSpE8 (e : Byte) (s : State) : Result := addSpImm e s

/-- 0xF8 `ld hl, sp+e8` (R195). -/
def execLdHlSpE8 (e : Byte) (s : State) : Result := ldHlSpImm e s

end Sys2Proof.Machine
end

