-- ==== Sys2Proof/Machine/Alu8.lean ====
section
/-! DEFINITION. 8-bit arithmetic and logic (41_alu8.md R150 to R183): the shared operations, then a meaning for each opcode. -/

namespace Sys2Proof.Machine

/-- `inc r` (41_alu8.md R152): CF is never written. -/
def incR8 (r : R8) (s : State) : Result :=
  let res := s.getR8 r + 1
  .next ({ s.setR8 r res with zf := isZero res }.retire (s.pc + 1) 1)

/-- `dec r` (41_alu8.md R154): 0 wraps to 0xFF (90_conflicts.md C4). -/
def decR8 (r : R8) (s : State) : Result :=
  let res := s.getR8 r - 1
  .next ({ s.setR8 r res with zf := isZero res }.retire (s.pc + 1) 1)

/-- `inc [hl]` (41_alu8.md R153): one read, then one write. -/
def incMem (s : State) : Result :=
  let v := s.readByte s.hl
  let res := v.1 + 1
  .next ({ v.2.writeByte s.hl res with zf := isZero res }.retire (s.pc + 1) 3)

/-- `dec [hl]` (41_alu8.md R155). -/
def decMem (s : State) : Result :=
  let v := s.readByte s.hl
  let res := v.1 - 1
  .next ({ v.2.writeByte s.hl res with zf := isZero res }.retire (s.pc + 1) 3)

/-- The effect of an accumulator operation with an operand: A, ZF and CF (41_alu8.md section 3). -/
def State.applyAlu (s : State) (op : AluOp) (v : Byte) : State :=
  let r := alu8 op s.a v s.cf
  { s with a := r.1, zf := r.2.1, cf := r.2.2 }

/-- An accumulator operation with a register operand (41_alu8.md R156 and its like). -/
def aluR8 (op : AluOp) (r : R8) (s : State) : Result :=
  .next ((s.applyAlu op (s.getR8 r)).retire (s.pc + 1) 1)

/-- An accumulator operation with the byte at HL (41_alu8.md R157 and its like). -/
def aluMem (op : AluOp) (s : State) : Result :=
  let v := s.readByte s.hl
  .next ((v.2.applyAlu op v.1).retire (s.pc + 1) 2)

/-- An accumulator operation with an immediate byte (41_alu8.md R158 and its like). -/
def aluImm (op : AluOp) (n : Byte) (s : State) : Result :=
  .next ((s.applyAlu op n).retire (s.pc + 2) 2)

/-- `cpl` (41_alu8.md R181). -/
def complementAcc (s : State) : Result :=
  .next ({ s with a := ~~~s.a }.retire (s.pc + 1) 1)

/-- `scf` (41_alu8.md R182). -/
def setCarry (s : State) : Result :=
  .next ({ s with cf := true }.retire (s.pc + 1) 1)

/-- `ccf` (41_alu8.md R183). -/
def complementCarry (s : State) : Result :=
  .next ({ s with cf := !s.cf }.retire (s.pc + 1) 1)

/-- 0x04 `inc b` (R152). -/
def execIncB (s : State) : Result := incR8 .b s

/-- 0x05 `dec b` (R154). -/
def execDecB (s : State) : Result := decR8 .b s

/-- 0x0C `inc c` (R152). -/
def execIncC (s : State) : Result := incR8 .c s

/-- 0x0D `dec c` (R154). -/
def execDecC (s : State) : Result := decR8 .c s

/-- 0x14 `inc d` (R152). -/
def execIncD (s : State) : Result := incR8 .d s

/-- 0x15 `dec d` (R154). -/
def execDecD (s : State) : Result := decR8 .d s

/-- 0x1C `inc e` (R152). -/
def execIncE (s : State) : Result := incR8 .e s

/-- 0x1D `dec e` (R154). -/
def execDecE (s : State) : Result := decR8 .e s

/-- 0x24 `inc h` (R152). -/
def execIncH (s : State) : Result := incR8 .h s

/-- 0x25 `dec h` (R154). -/
def execDecH (s : State) : Result := decR8 .h s

/-- 0x27 `daa` (R180). -/
def execDaa (s : State) : Result := raiseUnimplemented 0x27 false s

/-- 0x2C `inc l` (R152). -/
def execIncL (s : State) : Result := incR8 .l s

/-- 0x2D `dec l` (R154). -/
def execDecL (s : State) : Result := decR8 .l s

/-- 0x2F `cpl` (R181). -/
def execCpl (s : State) : Result := complementAcc s

/-- 0x34 `inc [hl]` (R153). -/
def execIncAtHl (s : State) : Result := incMem s

/-- 0x35 `dec [hl]` (R155). -/
def execDecAtHl (s : State) : Result := decMem s

/-- 0x37 `scf` (R182). -/
def execScf (s : State) : Result := setCarry s

/-- 0x3C `inc a` (R152). -/
def execIncA (s : State) : Result := incR8 .a s

/-- 0x3D `dec a` (R154). -/
def execDecA (s : State) : Result := decR8 .a s

/-- 0x3F `ccf` (R183). -/
def execCcf (s : State) : Result := complementCarry s

/-- 0x80 `add a, b` (R156). -/
def execAddAB (s : State) : Result := aluR8 .add .b s

/-- 0x81 `add a, c` (R156). -/
def execAddAC (s : State) : Result := aluR8 .add .c s

/-- 0x82 `add a, d` (R156). -/
def execAddAD (s : State) : Result := aluR8 .add .d s

/-- 0x83 `add a, e` (R156). -/
def execAddAE (s : State) : Result := aluR8 .add .e s

/-- 0x84 `add a, h` (R156). -/
def execAddAH (s : State) : Result := aluR8 .add .h s

/-- 0x85 `add a, l` (R156). -/
def execAddAL (s : State) : Result := aluR8 .add .l s

/-- 0x86 `add a, [hl]` (R157). -/
def execAddAAtHl (s : State) : Result := aluMem .add s

/-- 0x87 `add a, a` (R156). -/
def execAddAA (s : State) : Result := aluR8 .add .a s

/-- 0x88 `adc a, b` (R159). -/
def execAdcAB (s : State) : Result := aluR8 .adc .b s

/-- 0x89 `adc a, c` (R159). -/
def execAdcAC (s : State) : Result := aluR8 .adc .c s

/-- 0x8A `adc a, d` (R159). -/
def execAdcAD (s : State) : Result := aluR8 .adc .d s

/-- 0x8B `adc a, e` (R159). -/
def execAdcAE (s : State) : Result := aluR8 .adc .e s

/-- 0x8C `adc a, h` (R159). -/
def execAdcAH (s : State) : Result := aluR8 .adc .h s

/-- 0x8D `adc a, l` (R159). -/
def execAdcAL (s : State) : Result := aluR8 .adc .l s

/-- 0x8E `adc a, [hl]` (R160). -/
def execAdcAAtHl (s : State) : Result := aluMem .adc s

/-- 0x8F `adc a, a` (R159). -/
def execAdcAA (s : State) : Result := aluR8 .adc .a s

/-- 0x90 `sub a, b` (R162). -/
def execSubAB (s : State) : Result := aluR8 .sub .b s

/-- 0x91 `sub a, c` (R162). -/
def execSubAC (s : State) : Result := aluR8 .sub .c s

/-- 0x92 `sub a, d` (R162). -/
def execSubAD (s : State) : Result := aluR8 .sub .d s

/-- 0x93 `sub a, e` (R162). -/
def execSubAE (s : State) : Result := aluR8 .sub .e s

/-- 0x94 `sub a, h` (R162). -/
def execSubAH (s : State) : Result := aluR8 .sub .h s

/-- 0x95 `sub a, l` (R162). -/
def execSubAL (s : State) : Result := aluR8 .sub .l s

/-- 0x96 `sub a, [hl]` (R163). -/
def execSubAAtHl (s : State) : Result := aluMem .sub s

/-- 0x97 `sub a, a` (R162). -/
def execSubAA (s : State) : Result := aluR8 .sub .a s

/-- 0x98 `sbc a, b` (R165). -/
def execSbcAB (s : State) : Result := aluR8 .sbc .b s

/-- 0x99 `sbc a, c` (R165). -/
def execSbcAC (s : State) : Result := aluR8 .sbc .c s

/-- 0x9A `sbc a, d` (R165). -/
def execSbcAD (s : State) : Result := aluR8 .sbc .d s

/-- 0x9B `sbc a, e` (R165). -/
def execSbcAE (s : State) : Result := aluR8 .sbc .e s

/-- 0x9C `sbc a, h` (R165). -/
def execSbcAH (s : State) : Result := aluR8 .sbc .h s

/-- 0x9D `sbc a, l` (R165). -/
def execSbcAL (s : State) : Result := aluR8 .sbc .l s

/-- 0x9E `sbc a, [hl]` (R166). -/
def execSbcAAtHl (s : State) : Result := aluMem .sbc s

/-- 0x9F `sbc a, a` (R165). -/
def execSbcAA (s : State) : Result := aluR8 .sbc .a s

/-- 0xA0 `and a, b` (R168). -/
def execAndAB (s : State) : Result := aluR8 .and .b s

/-- 0xA1 `and a, c` (R168). -/
def execAndAC (s : State) : Result := aluR8 .and .c s

/-- 0xA2 `and a, d` (R168). -/
def execAndAD (s : State) : Result := aluR8 .and .d s

/-- 0xA3 `and a, e` (R168). -/
def execAndAE (s : State) : Result := aluR8 .and .e s

/-- 0xA4 `and a, h` (R168). -/
def execAndAH (s : State) : Result := aluR8 .and .h s

/-- 0xA5 `and a, l` (R168). -/
def execAndAL (s : State) : Result := aluR8 .and .l s

/-- 0xA6 `and a, [hl]` (R169). -/
def execAndAAtHl (s : State) : Result := aluMem .and s

/-- 0xA7 `and a, a` (R168). -/
def execAndAA (s : State) : Result := aluR8 .and .a s

/-- 0xA8 `xor a, b` (R171). -/
def execXorAB (s : State) : Result := aluR8 .xor .b s

/-- 0xA9 `xor a, c` (R171). -/
def execXorAC (s : State) : Result := aluR8 .xor .c s

/-- 0xAA `xor a, d` (R171). -/
def execXorAD (s : State) : Result := aluR8 .xor .d s

/-- 0xAB `xor a, e` (R171). -/
def execXorAE (s : State) : Result := aluR8 .xor .e s

/-- 0xAC `xor a, h` (R171). -/
def execXorAH (s : State) : Result := aluR8 .xor .h s

/-- 0xAD `xor a, l` (R171). -/
def execXorAL (s : State) : Result := aluR8 .xor .l s

/-- 0xAE `xor a, [hl]` (R172). -/
def execXorAAtHl (s : State) : Result := aluMem .xor s

/-- 0xAF `xor a, a` (R171). -/
def execXorAA (s : State) : Result := aluR8 .xor .a s

/-- 0xB0 `or a, b` (R174). -/
def execOrAB (s : State) : Result := aluR8 .or .b s

/-- 0xB1 `or a, c` (R174). -/
def execOrAC (s : State) : Result := aluR8 .or .c s

/-- 0xB2 `or a, d` (R174). -/
def execOrAD (s : State) : Result := aluR8 .or .d s

/-- 0xB3 `or a, e` (R174). -/
def execOrAE (s : State) : Result := aluR8 .or .e s

/-- 0xB4 `or a, h` (R174). -/
def execOrAH (s : State) : Result := aluR8 .or .h s

/-- 0xB5 `or a, l` (R174). -/
def execOrAL (s : State) : Result := aluR8 .or .l s

/-- 0xB6 `or a, [hl]` (R175). -/
def execOrAAtHl (s : State) : Result := aluMem .or s

/-- 0xB7 `or a, a` (R174). -/
def execOrAA (s : State) : Result := aluR8 .or .a s

/-- 0xB8 `cp a, b` (R177). -/
def execCpAB (s : State) : Result := aluR8 .cp .b s

/-- 0xB9 `cp a, c` (R177). -/
def execCpAC (s : State) : Result := aluR8 .cp .c s

/-- 0xBA `cp a, d` (R177). -/
def execCpAD (s : State) : Result := aluR8 .cp .d s

/-- 0xBB `cp a, e` (R177). -/
def execCpAE (s : State) : Result := aluR8 .cp .e s

/-- 0xBC `cp a, h` (R177). -/
def execCpAH (s : State) : Result := aluR8 .cp .h s

/-- 0xBD `cp a, l` (R177). -/
def execCpAL (s : State) : Result := aluR8 .cp .l s

/-- 0xBE `cp a, [hl]` (R178). -/
def execCpAAtHl (s : State) : Result := aluMem .cp s

/-- 0xBF `cp a, a` (R177). -/
def execCpAA (s : State) : Result := aluR8 .cp .a s

/-- 0xC6 `add a, n8` (R158). -/
def execAddAN8 (n : Byte) (s : State) : Result := aluImm .add n s

/-- 0xCE `adc a, n8` (R161). -/
def execAdcAN8 (n : Byte) (s : State) : Result := aluImm .adc n s

/-- 0xD6 `sub a, n8` (R164). -/
def execSubAN8 (n : Byte) (s : State) : Result := aluImm .sub n s

/-- 0xDE `sbc a, n8` (R167). -/
def execSbcAN8 (n : Byte) (s : State) : Result := aluImm .sbc n s

/-- 0xE6 `and a, n8` (R170). -/
def execAndAN8 (n : Byte) (s : State) : Result := aluImm .and n s

/-- 0xEE `xor a, n8` (R173). -/
def execXorAN8 (n : Byte) (s : State) : Result := aluImm .xor n s

/-- 0xF6 `or a, n8` (R176). -/
def execOrAN8 (n : Byte) (s : State) : Result := aluImm .or n s

/-- 0xFE `cp a, n8` (R179). -/
def execCpAN8 (n : Byte) (s : State) : Result := aluImm .cp n s

end Sys2Proof.Machine
end

