-- ==== Sys2Proof/Machine/Control.lean ====
section
/-! DEFINITION. Control transfer (43_control.md R210 to R221): the shared operations, then a meaning for each opcode. The
immediate bytes are fetched whether or not a condition holds, because the step fetches the whole instruction first. -/

namespace Sys2Proof.Machine

/-- `jr e8` (43_control.md R211). -/
def jumpRelative (e : Byte) (s : State) : Result := .next (s.retire (jrTarget s.pc e) 3)

/-- `jr cc, e8` (43_control.md R212): 3 taken, 2 untaken. -/
def jumpRelativeIf (cc : Cond) (e : Byte) (s : State) : Result :=
  if s.cond cc then .next (s.retire (jrTarget s.pc e) 3) else .next (s.retire (s.pc + 2) 2)

/-- `jp n16` (43_control.md R213). -/
def jumpAbsolute (n : Word) (s : State) : Result := .next (s.retire n 4)

/-- `jp cc, n16` (43_control.md R214): 4 taken, 3 untaken (90_conflicts.md C6). -/
def jumpAbsoluteIf (cc : Cond) (n : Word) (s : State) : Result :=
  if s.cond cc then .next (s.retire n 4) else .next (s.retire (s.pc + 3) 3)

/-- `jp hl` (43_control.md R215): no memory is read at HL. -/
def jumpToHl (s : State) : Result := .next (s.retire s.hl 1)

/-- `call n16` (43_control.md R216): the pushed return address is the address after the call. -/
def callAddr (n : Word) (s : State) : Result := .next ((s.push16 (s.pc + 3)).retire n 6)

/-- `call cc, n16` (43_control.md R217): 6 taken, 3 untaken; untaken it writes no memory. -/
def callAddrIf (cc : Cond) (n : Word) (s : State) : Result :=
  if s.cond cc then .next ((s.push16 (s.pc + 3)).retire n 6) else .next (s.retire (s.pc + 3) 3)

/-- `ret` (43_control.md R218). -/
def returnAlways (s : State) : Result :=
  let t := s.pop16
  .next (t.2.retire t.1 4)

/-- `ret cc` (43_control.md R219): RET_CC_TAKEN_COST taken, 2 untaken; untaken it reads no memory. -/
def returnIf (cc : Cond) (s : State) : Result :=
  if s.cond cc then
    let t := s.pop16
    .next (t.2.retire t.1 s.config.retCcTakenCost)
  else .next (s.retire (s.pc + 1) 2)

/-- `reti` (43_control.md R220). -/
def returnEnabling (s : State) : Result :=
  let t := s.leaveHandler
  .next (t.2.retire t.1 4)

/-- `rst t` (43_control.md R221). -/
def restart (t : Fin 8) (s : State) : Result := .next ((s.push16 (s.pc + 1)).retire (restartTarget t) 4)

/-- 0x18 `jr e8` (R211). -/
def execJrE8 (e : Byte) (s : State) : Result := jumpRelative e s

/-- 0x20 `jr nz, e8` (R212). -/
def execJrNzE8 (e : Byte) (s : State) : Result := jumpRelativeIf .nz e s

/-- 0x28 `jr z, e8` (R212). -/
def execJrZE8 (e : Byte) (s : State) : Result := jumpRelativeIf .z e s

/-- 0x30 `jr nc, e8` (R212). -/
def execJrNcE8 (e : Byte) (s : State) : Result := jumpRelativeIf .nc e s

/-- 0x38 `jr c, e8` (R212). -/
def execJrCE8 (e : Byte) (s : State) : Result := jumpRelativeIf .c e s

/-- 0xC0 `ret nz` (R219). -/
def execRetNz (s : State) : Result := returnIf .nz s

/-- 0xC2 `jp nz, n16` (R214). -/
def execJpNzN16 (n : Word) (s : State) : Result := jumpAbsoluteIf .nz n s

/-- 0xC3 `jp n16` (R213). -/
def execJpN16 (n : Word) (s : State) : Result := jumpAbsolute n s

/-- 0xC4 `call nz, n16` (R217). -/
def execCallNzN16 (n : Word) (s : State) : Result := callAddrIf .nz n s

/-- 0xC7 `rst $00` (R221). -/
def execRst00 (s : State) : Result := restart 0 s

/-- 0xC8 `ret z` (R219). -/
def execRetZ (s : State) : Result := returnIf .z s

/-- 0xC9 `ret` (R218). -/
def execRet (s : State) : Result := returnAlways s

/-- 0xCA `jp z, n16` (R214). -/
def execJpZN16 (n : Word) (s : State) : Result := jumpAbsoluteIf .z n s

/-- 0xCC `call z, n16` (R217). -/
def execCallZN16 (n : Word) (s : State) : Result := callAddrIf .z n s

/-- 0xCD `call n16` (R216). -/
def execCallN16 (n : Word) (s : State) : Result := callAddr n s

/-- 0xCF `rst $08` (R221). -/
def execRst08 (s : State) : Result := restart 1 s

/-- 0xD0 `ret nc` (R219). -/
def execRetNc (s : State) : Result := returnIf .nc s

/-- 0xD2 `jp nc, n16` (R214). -/
def execJpNcN16 (n : Word) (s : State) : Result := jumpAbsoluteIf .nc n s

/-- 0xD4 `call nc, n16` (R217). -/
def execCallNcN16 (n : Word) (s : State) : Result := callAddrIf .nc n s

/-- 0xD7 `rst $10` (R221). -/
def execRst10 (s : State) : Result := restart 2 s

/-- 0xD8 `ret c` (R219). -/
def execRetC (s : State) : Result := returnIf .c s

/-- 0xD9 `reti` (R220). -/
def execReti (s : State) : Result := returnEnabling s

/-- 0xDA `jp c, n16` (R214). -/
def execJpCN16 (n : Word) (s : State) : Result := jumpAbsoluteIf .c n s

/-- 0xDC `call c, n16` (R217). -/
def execCallCN16 (n : Word) (s : State) : Result := callAddrIf .c n s

/-- 0xDF `rst $18` (R221). -/
def execRst18 (s : State) : Result := restart 3 s

/-- 0xE7 `rst $20` (R221). -/
def execRst20 (s : State) : Result := restart 4 s

/-- 0xE9 `jp hl` (R215). -/
def execJpHl (s : State) : Result := jumpToHl s

/-- 0xEF `rst $28` (R221). -/
def execRst28 (s : State) : Result := restart 5 s

/-- 0xF7 `rst $30` (R221). -/
def execRst30 (s : State) : Result := restart 6 s

/-- 0xFF `rst $38` (R221). -/
def execRst38 (s : State) : Result := restart 7 s

end Sys2Proof.Machine
end

