-- ==== Sys2Proof/Machine/Loads.lean ====
section
/-! DEFINITION. Loads, stores and the stack (40_loads.md R110 to R135): the shared operations, then a meaning for each opcode. -/

namespace Sys2Proof.Machine

/-- `ld r, r2` (40_loads.md R110). -/
def ldR8R8 (dst r : R8) (s : State) : Result :=
  .next ((s.setR8 dst (s.getR8 r)).retire (s.pc + 1) 1)

/-- `ld r, n8` (40_loads.md R111). -/
def ldR8N8 (dst : R8) (n : Byte) (s : State) : Result :=
  .next ((s.setR8 dst n).retire (s.pc + 2) 2)

/-- `ld r, [hl]` (40_loads.md R112): the address is formed before the write. -/
def ldR8AtHl (dst : R8) (s : State) : Result :=
  let v := s.readByte s.hl
  .next ((v.2.setR8 dst v.1).retire (s.pc + 1) 2)

/-- `ld [hl], r` (40_loads.md R113). -/
def ldAtHlR8 (r : R8) (s : State) : Result :=
  .next ((s.writeByte s.hl (s.getR8 r)).retire (s.pc + 1) 2)

/-- `ld [hl], n8` (40_loads.md R114). -/
def ldAtHlImm (n : Byte) (s : State) : Result :=
  .next ((s.writeByte s.hl n).retire (s.pc + 2) 3)

/-- Load A from an address: the shared effect of 40_loads.md R115, R117, R119 and R121. -/
def loadAcc (s : State) (addr : Word) : State :=
  let v := s.readByte addr
  { v.2 with a := v.1 }

/-- `ld a, [rr]` (40_loads.md R115): rr is bc or de. -/
def ldAccAtPair (q : Pair) (s : State) : Result :=
  .next ((loadAcc s (s.getPair q)).retire (s.pc + 1) 2)

/-- `ld [rr], a` (40_loads.md R116): rr is bc or de. -/
def ldAtPairAcc (q : Pair) (s : State) : Result :=
  .next ((s.writeByte (s.getPair q) s.a).retire (s.pc + 1) 2)

/-- `ld a, [n16]` (40_loads.md R117). -/
def ldAccAtAddr (n : Word) (s : State) : Result :=
  .next ((loadAcc s n).retire (s.pc + 3) 4)

/-- `ld [n16], a` (40_loads.md R118). -/
def ldAtAddrAcc (n : Word) (s : State) : Result :=
  .next ((s.writeByte n s.a).retire (s.pc + 3) 4)

/-- `ldh a, [n8]` (40_loads.md R119). -/
def ldAccAtPage (n : Byte) (s : State) : Result :=
  .next ((loadAcc s (pageAddr n)).retire (s.pc + 2) 3)

/-- `ldh [n8], a` (40_loads.md R120). -/
def ldAtPageAcc (n : Byte) (s : State) : Result :=
  .next ((s.writeByte (pageAddr n) s.a).retire (s.pc + 2) 3)

/-- `ld a, [c]` (40_loads.md R121). -/
def ldAccAtPageC (s : State) : Result :=
  .next ((loadAcc s (pageAddr s.c)).retire (s.pc + 1) 2)

/-- `ld [c], a` (40_loads.md R122). -/
def ldAtPageCAcc (s : State) : Result :=
  .next ((s.writeByte (pageAddr s.c) s.a).retire (s.pc + 1) 2)

/-- `ld [hl+], a` and `ld [hl-], a` (40_loads.md R123, R124): store A at HL, then step HL by one. -/
def ldAtHlStepAcc (by_ : Word) (s : State) : Result :=
  .next (((s.writeByte s.hl s.a).setPair .hl (s.hl + by_)).retire (s.pc + 1) 2)

/-- `ld a, [hl+]` and `ld a, [hl-]` (40_loads.md R125, R126): load A from HL, then step HL by one. -/
def ldAccAtHlStep (by_ : Word) (s : State) : Result :=
  .next (((loadAcc s s.hl).setPair .hl (s.hl + by_)).retire (s.pc + 1) 2)

/-- `ld ss, n16` (40_loads.md R127). -/
def ldR16N16 (ss : R16) (n : Word) (s : State) : Result :=
  .next ((s.setR16 ss n).retire (s.pc + 3) 3)

/-- `ld [n16], sp` (40_loads.md R128). -/
def ldAtAddrSp (n : Word) (s : State) : Result :=
  .next ((s.writeWord n s.sp).retire (s.pc + 3) 5)

/-- `ld sp, hl` (40_loads.md R129). -/
def ldStackHl (s : State) : Result :=
  .next ({ s with sp := s.hl }.retire (s.pc + 1) 2)

/-- `push qq` (40_loads.md R132). -/
def pushPair (q : Pair) (s : State) : Result :=
  .next ((s.push16 (s.getPair q)).retire (s.pc + 1) 4)

/-- `push af` (40_loads.md R133). -/
def pushAcc (s : State) : Result :=
  .next ((s.push16 (joinBytes s.a (flagByte s.zf s.cf))).retire (s.pc + 1) 4)

/-- `pop qq` (40_loads.md R134). -/
def popPair (q : Pair) (s : State) : Result :=
  let v := s.pop16
  .next ((v.2.setPair q v.1).retire (s.pc + 1) 3)

/-- `pop af` (40_loads.md R135): bits 6, 5 and 3 to 0 of the low byte are discarded. -/
def popAcc (s : State) : Result :=
  let v := s.pop16
  .next ({ v.2 with a := hiByte v.1, zf := flagByteZ (loByte v.1), cf := flagByteC (loByte v.1) }.retire (s.pc + 1) 3)

/-- 0x01 `ld bc, n16` (R127). -/
def execLdBcN16 (n : Word) (s : State) : Result := ldR16N16 .bc n s

/-- 0x02 `ld [bc], a` (R116). -/
def execLdAtBcA (s : State) : Result := ldAtPairAcc .bc s

/-- 0x06 `ld b, n8` (R111). -/
def execLdBN8 (n : Byte) (s : State) : Result := ldR8N8 .b n s

/-- 0x08 `ld [n16], sp` (R128). -/
def execLdAtN16Sp (n : Word) (s : State) : Result := ldAtAddrSp n s

/-- 0x0A `ld a, [bc]` (R115). -/
def execLdAAtBc (s : State) : Result := ldAccAtPair .bc s

/-- 0x0E `ld c, n8` (R111). -/
def execLdCN8 (n : Byte) (s : State) : Result := ldR8N8 .c n s

/-- 0x11 `ld de, n16` (R127). -/
def execLdDeN16 (n : Word) (s : State) : Result := ldR16N16 .de n s

/-- 0x12 `ld [de], a` (R116). -/
def execLdAtDeA (s : State) : Result := ldAtPairAcc .de s

/-- 0x16 `ld d, n8` (R111). -/
def execLdDN8 (n : Byte) (s : State) : Result := ldR8N8 .d n s

/-- 0x1A `ld a, [de]` (R115). -/
def execLdAAtDe (s : State) : Result := ldAccAtPair .de s

/-- 0x1E `ld e, n8` (R111). -/
def execLdEN8 (n : Byte) (s : State) : Result := ldR8N8 .e n s

/-- 0x21 `ld hl, n16` (R127). -/
def execLdHlN16 (n : Word) (s : State) : Result := ldR16N16 .hl n s

/-- 0x22 `ld [hl+], a` (R123). -/
def execLdAtHlIncA (s : State) : Result := ldAtHlStepAcc 1 s

/-- 0x26 `ld h, n8` (R111). -/
def execLdHN8 (n : Byte) (s : State) : Result := ldR8N8 .h n s

/-- 0x2A `ld a, [hl+]` (R125). -/
def execLdAAtHlInc (s : State) : Result := ldAccAtHlStep 1 s

/-- 0x2E `ld l, n8` (R111). -/
def execLdLN8 (n : Byte) (s : State) : Result := ldR8N8 .l n s

/-- 0x31 `ld sp, n16` (R127). -/
def execLdSpN16 (n : Word) (s : State) : Result := ldR16N16 .sp n s

/-- 0x32 `ld [hl-], a` (R124). -/
def execLdAtHlDecA (s : State) : Result := ldAtHlStepAcc (-1) s

/-- 0x36 `ld [hl], n8` (R114). -/
def execLdAtHlN8 (n : Byte) (s : State) : Result := ldAtHlImm n s

/-- 0x3A `ld a, [hl-]` (R126). -/
def execLdAAtHlDec (s : State) : Result := ldAccAtHlStep (-1) s

/-- 0x3E `ld a, n8` (R111). -/
def execLdAN8 (n : Byte) (s : State) : Result := ldR8N8 .a n s

/-- 0x40 `ld b, b` (R110). -/
def execLdBB (s : State) : Result := ldR8R8 .b .b s

/-- 0x41 `ld b, c` (R110). -/
def execLdBC (s : State) : Result := ldR8R8 .b .c s

/-- 0x42 `ld b, d` (R110). -/
def execLdBD (s : State) : Result := ldR8R8 .b .d s

/-- 0x43 `ld b, e` (R110). -/
def execLdBE (s : State) : Result := ldR8R8 .b .e s

/-- 0x44 `ld b, h` (R110). -/
def execLdBH (s : State) : Result := ldR8R8 .b .h s

/-- 0x45 `ld b, l` (R110). -/
def execLdBL (s : State) : Result := ldR8R8 .b .l s

/-- 0x46 `ld b, [hl]` (R112). -/
def execLdBAtHl (s : State) : Result := ldR8AtHl .b s

/-- 0x47 `ld b, a` (R110). -/
def execLdBA (s : State) : Result := ldR8R8 .b .a s

/-- 0x48 `ld c, b` (R110). -/
def execLdCB (s : State) : Result := ldR8R8 .c .b s

/-- 0x49 `ld c, c` (R110). -/
def execLdCC (s : State) : Result := ldR8R8 .c .c s

/-- 0x4A `ld c, d` (R110). -/
def execLdCD (s : State) : Result := ldR8R8 .c .d s

/-- 0x4B `ld c, e` (R110). -/
def execLdCE (s : State) : Result := ldR8R8 .c .e s

/-- 0x4C `ld c, h` (R110). -/
def execLdCH (s : State) : Result := ldR8R8 .c .h s

/-- 0x4D `ld c, l` (R110). -/
def execLdCL (s : State) : Result := ldR8R8 .c .l s

/-- 0x4E `ld c, [hl]` (R112). -/
def execLdCAtHl (s : State) : Result := ldR8AtHl .c s

/-- 0x4F `ld c, a` (R110). -/
def execLdCA (s : State) : Result := ldR8R8 .c .a s

/-- 0x50 `ld d, b` (R110). -/
def execLdDB (s : State) : Result := ldR8R8 .d .b s

/-- 0x51 `ld d, c` (R110). -/
def execLdDC (s : State) : Result := ldR8R8 .d .c s

/-- 0x52 `ld d, d` (R110). -/
def execLdDD (s : State) : Result := ldR8R8 .d .d s

/-- 0x53 `ld d, e` (R110). -/
def execLdDE (s : State) : Result := ldR8R8 .d .e s

/-- 0x54 `ld d, h` (R110). -/
def execLdDH (s : State) : Result := ldR8R8 .d .h s

/-- 0x55 `ld d, l` (R110). -/
def execLdDL (s : State) : Result := ldR8R8 .d .l s

/-- 0x56 `ld d, [hl]` (R112). -/
def execLdDAtHl (s : State) : Result := ldR8AtHl .d s

/-- 0x57 `ld d, a` (R110). -/
def execLdDA (s : State) : Result := ldR8R8 .d .a s

/-- 0x58 `ld e, b` (R110). -/
def execLdEB (s : State) : Result := ldR8R8 .e .b s

/-- 0x59 `ld e, c` (R110). -/
def execLdEC (s : State) : Result := ldR8R8 .e .c s

/-- 0x5A `ld e, d` (R110). -/
def execLdED (s : State) : Result := ldR8R8 .e .d s

/-- 0x5B `ld e, e` (R110). -/
def execLdEE (s : State) : Result := ldR8R8 .e .e s

/-- 0x5C `ld e, h` (R110). -/
def execLdEH (s : State) : Result := ldR8R8 .e .h s

/-- 0x5D `ld e, l` (R110). -/
def execLdEL (s : State) : Result := ldR8R8 .e .l s

/-- 0x5E `ld e, [hl]` (R112). -/
def execLdEAtHl (s : State) : Result := ldR8AtHl .e s

/-- 0x5F `ld e, a` (R110). -/
def execLdEA (s : State) : Result := ldR8R8 .e .a s

/-- 0x60 `ld h, b` (R110). -/
def execLdHB (s : State) : Result := ldR8R8 .h .b s

/-- 0x61 `ld h, c` (R110). -/
def execLdHC (s : State) : Result := ldR8R8 .h .c s

/-- 0x62 `ld h, d` (R110). -/
def execLdHD (s : State) : Result := ldR8R8 .h .d s

/-- 0x63 `ld h, e` (R110). -/
def execLdHE (s : State) : Result := ldR8R8 .h .e s

/-- 0x64 `ld h, h` (R110). -/
def execLdHH (s : State) : Result := ldR8R8 .h .h s

/-- 0x65 `ld h, l` (R110). -/
def execLdHL (s : State) : Result := ldR8R8 .h .l s

/-- 0x66 `ld h, [hl]` (R112). -/
def execLdHAtHl (s : State) : Result := ldR8AtHl .h s

/-- 0x67 `ld h, a` (R110). -/
def execLdHA (s : State) : Result := ldR8R8 .h .a s

/-- 0x68 `ld l, b` (R110). -/
def execLdLB (s : State) : Result := ldR8R8 .l .b s

/-- 0x69 `ld l, c` (R110). -/
def execLdLC (s : State) : Result := ldR8R8 .l .c s

/-- 0x6A `ld l, d` (R110). -/
def execLdLD (s : State) : Result := ldR8R8 .l .d s

/-- 0x6B `ld l, e` (R110). -/
def execLdLE (s : State) : Result := ldR8R8 .l .e s

/-- 0x6C `ld l, h` (R110). -/
def execLdLH (s : State) : Result := ldR8R8 .l .h s

/-- 0x6D `ld l, l` (R110). -/
def execLdLL (s : State) : Result := ldR8R8 .l .l s

/-- 0x6E `ld l, [hl]` (R112). -/
def execLdLAtHl (s : State) : Result := ldR8AtHl .l s

/-- 0x6F `ld l, a` (R110). -/
def execLdLA (s : State) : Result := ldR8R8 .l .a s

/-- 0x70 `ld [hl], b` (R113). -/
def execLdAtHlB (s : State) : Result := ldAtHlR8 .b s

/-- 0x71 `ld [hl], c` (R113). -/
def execLdAtHlC (s : State) : Result := ldAtHlR8 .c s

/-- 0x72 `ld [hl], d` (R113). -/
def execLdAtHlD (s : State) : Result := ldAtHlR8 .d s

/-- 0x73 `ld [hl], e` (R113). -/
def execLdAtHlE (s : State) : Result := ldAtHlR8 .e s

/-- 0x74 `ld [hl], h` (R113). -/
def execLdAtHlH (s : State) : Result := ldAtHlR8 .h s

/-- 0x75 `ld [hl], l` (R113). -/
def execLdAtHlL (s : State) : Result := ldAtHlR8 .l s

/-- 0x77 `ld [hl], a` (R113). -/
def execLdAtHlA (s : State) : Result := ldAtHlR8 .a s

/-- 0x78 `ld a, b` (R110). -/
def execLdAB (s : State) : Result := ldR8R8 .a .b s

/-- 0x79 `ld a, c` (R110). -/
def execLdAC (s : State) : Result := ldR8R8 .a .c s

/-- 0x7A `ld a, d` (R110). -/
def execLdAD (s : State) : Result := ldR8R8 .a .d s

/-- 0x7B `ld a, e` (R110). -/
def execLdAE (s : State) : Result := ldR8R8 .a .e s

/-- 0x7C `ld a, h` (R110). -/
def execLdAH (s : State) : Result := ldR8R8 .a .h s

/-- 0x7D `ld a, l` (R110). -/
def execLdAL (s : State) : Result := ldR8R8 .a .l s

/-- 0x7E `ld a, [hl]` (R112). -/
def execLdAAtHl (s : State) : Result := ldR8AtHl .a s

/-- 0x7F `ld a, a` (R110). -/
def execLdAA (s : State) : Result := ldR8R8 .a .a s

/-- 0xC1 `pop bc` (R134). -/
def execPopBc (s : State) : Result := popPair .bc s

/-- 0xC5 `push bc` (R132). -/
def execPushBc (s : State) : Result := pushPair .bc s

/-- 0xD1 `pop de` (R134). -/
def execPopDe (s : State) : Result := popPair .de s

/-- 0xD5 `push de` (R132). -/
def execPushDe (s : State) : Result := pushPair .de s

/-- 0xE0 `ldh [n8], a` (R120). -/
def execLdhAtN8A (n : Byte) (s : State) : Result := ldAtPageAcc n s

/-- 0xE1 `pop hl` (R134). -/
def execPopHl (s : State) : Result := popPair .hl s

/-- 0xE2 `ld [c], a` (R122). -/
def execLdAtCA (s : State) : Result := ldAtPageCAcc s

/-- 0xE5 `push hl` (R132). -/
def execPushHl (s : State) : Result := pushPair .hl s

/-- 0xEA `ld [n16], a` (R118). -/
def execLdAtN16A (n : Word) (s : State) : Result := ldAtAddrAcc n s

/-- 0xF0 `ldh a, [n8]` (R119). -/
def execLdhAAtN8 (n : Byte) (s : State) : Result := ldAccAtPage n s

/-- 0xF1 `pop af` (R135). -/
def execPopAf (s : State) : Result := popAcc s

/-- 0xF2 `ld a, [c]` (R121). -/
def execLdAAtC (s : State) : Result := ldAccAtPageC s

/-- 0xF5 `push af` (R133). -/
def execPushAf (s : State) : Result := pushAcc s

/-- 0xF9 `ld sp, hl` (R129). -/
def execLdSpHl (s : State) : Result := ldStackHl s

/-- 0xFA `ld a, [n16]` (R117). -/
def execLdAAtN16 (n : Word) (s : State) : Result := ldAccAtAddr n s

end Sys2Proof.Machine
end

