-- ==== Sys2Proof/Machine/Rotate.lean ====
section
/-! DEFINITION. Rotates, shifts and bit operations (45_rotate_cb.md R260 to R286): the shared operations, then a meaning for each
opcode. -/

namespace Sys2Proof.Machine

/-- `rlca`, `rrca`, `rla`, `rra` (45_rotate_cb.md R260 to R263): ZF is cleared, not set from the result. -/
def rotateAcc (op : ShiftOp) (s : State) : Result :=
  let r := shift8 op s.a s.cf
  .next ({ s with a := r.1, zf := false, cf := r.2 }.retire (s.pc + 1) 1)

/-- A rotate or shift of a register (45_rotate_cb.md R265 and its like). -/
def shiftR8 (op : ShiftOp) (r : R8) (s : State) : Result :=
  let v := shift8 op (s.getR8 r) s.cf
  .next ({ s.setR8 r v.1 with zf := isZero v.1, cf := v.2 }.retire (s.pc + 2) 2)

/-- A rotate or shift of the byte at HL (45_rotate_cb.md R266 and its like): one read, then one write. -/
def shiftMem (op : ShiftOp) (s : State) : Result :=
  let m := s.readByte s.hl
  let v := shift8 op m.1 s.cf
  .next ({ m.2.writeByte s.hl v.1 with zf := isZero v.1, cf := v.2 }.retire (s.pc + 2) 4)

/-- `bit b, r` (45_rotate_cb.md R281): ZF is the complement of the tested bit. -/
def bitR8 (n : Fin 8) (r : R8) (s : State) : Result :=
  .next ({ s with zf := !(s.getR8 r).getLsbD n.val }.retire (s.pc + 2) 2)

/-- `bit b, [hl]` (45_rotate_cb.md R282): one read and no write. -/
def bitMem (n : Fin 8) (s : State) : Result :=
  let m := s.readByte s.hl
  .next ({ m.2 with zf := !m.1.getLsbD n.val }.retire (s.pc + 2) 3)

/-- `v & (0xFF - (1 << b))` (45_rotate_cb.md R283). -/
def clearBit (n : Fin 8) (v : Byte) : Byte := v &&& (0xFF - bitMask n)

/-- `v | (1 << b)` (45_rotate_cb.md R285). -/
def putBit (n : Fin 8) (v : Byte) : Byte := v ||| bitMask n

/-- `res b, r` (45_rotate_cb.md R283). -/
def resR8 (n : Fin 8) (r : R8) (s : State) : Result :=
  .next ((s.setR8 r (clearBit n (s.getR8 r))).retire (s.pc + 2) 2)

/-- `res b, [hl]` (45_rotate_cb.md R284): the byte is always written back. -/
def resMem (n : Fin 8) (s : State) : Result :=
  let m := s.readByte s.hl
  .next ((m.2.writeByte s.hl (clearBit n m.1)).retire (s.pc + 2) 4)

/-- `set b, r` (45_rotate_cb.md R285). -/
def setR8Bit (n : Fin 8) (r : R8) (s : State) : Result :=
  .next ((s.setR8 r (putBit n (s.getR8 r))).retire (s.pc + 2) 2)

/-- `set b, [hl]` (45_rotate_cb.md R286): the byte is always written back. -/
def setMem (n : Fin 8) (s : State) : Result :=
  let m := s.readByte s.hl
  .next ((m.2.writeByte s.hl (putBit n m.1)).retire (s.pc + 2) 4)

/-- 0x07 `rlca` (R260). -/
def execRlca (s : State) : Result := rotateAcc .rlc s

/-- 0x0F `rrca` (R261). -/
def execRrca (s : State) : Result := rotateAcc .rrc s

/-- 0x17 `rla` (R262). -/
def execRla (s : State) : Result := rotateAcc .rl s

/-- 0x1F `rra` (R263). -/
def execRra (s : State) : Result := rotateAcc .rr s

/-- 0xCB 0x00 `rlc b` (R265). -/
def execRlcB (s : State) : Result := shiftR8 .rlc .b s

/-- 0xCB 0x01 `rlc c` (R265). -/
def execRlcC (s : State) : Result := shiftR8 .rlc .c s

/-- 0xCB 0x02 `rlc d` (R265). -/
def execRlcD (s : State) : Result := shiftR8 .rlc .d s

/-- 0xCB 0x03 `rlc e` (R265). -/
def execRlcE (s : State) : Result := shiftR8 .rlc .e s

/-- 0xCB 0x04 `rlc h` (R265). -/
def execRlcH (s : State) : Result := shiftR8 .rlc .h s

/-- 0xCB 0x05 `rlc l` (R265). -/
def execRlcL (s : State) : Result := shiftR8 .rlc .l s

/-- 0xCB 0x06 `rlc [hl]` (R266). -/
def execRlcAtHl (s : State) : Result := shiftMem .rlc s

/-- 0xCB 0x07 `rlc a` (R265). -/
def execRlcA (s : State) : Result := shiftR8 .rlc .a s

/-- 0xCB 0x08 `rrc b` (R267). -/
def execRrcB (s : State) : Result := shiftR8 .rrc .b s

/-- 0xCB 0x09 `rrc c` (R267). -/
def execRrcC (s : State) : Result := shiftR8 .rrc .c s

/-- 0xCB 0x0A `rrc d` (R267). -/
def execRrcD (s : State) : Result := shiftR8 .rrc .d s

/-- 0xCB 0x0B `rrc e` (R267). -/
def execRrcE (s : State) : Result := shiftR8 .rrc .e s

/-- 0xCB 0x0C `rrc h` (R267). -/
def execRrcH (s : State) : Result := shiftR8 .rrc .h s

/-- 0xCB 0x0D `rrc l` (R267). -/
def execRrcL (s : State) : Result := shiftR8 .rrc .l s

/-- 0xCB 0x0E `rrc [hl]` (R268). -/
def execRrcAtHl (s : State) : Result := shiftMem .rrc s

/-- 0xCB 0x0F `rrc a` (R267). -/
def execRrcA (s : State) : Result := shiftR8 .rrc .a s

/-- 0xCB 0x10 `rl b` (R269). -/
def execRlB (s : State) : Result := shiftR8 .rl .b s

/-- 0xCB 0x11 `rl c` (R269). -/
def execRlC (s : State) : Result := shiftR8 .rl .c s

/-- 0xCB 0x12 `rl d` (R269). -/
def execRlD (s : State) : Result := shiftR8 .rl .d s

/-- 0xCB 0x13 `rl e` (R269). -/
def execRlE (s : State) : Result := shiftR8 .rl .e s

/-- 0xCB 0x14 `rl h` (R269). -/
def execRlH (s : State) : Result := shiftR8 .rl .h s

/-- 0xCB 0x15 `rl l` (R269). -/
def execRlL (s : State) : Result := shiftR8 .rl .l s

/-- 0xCB 0x16 `rl [hl]` (R270). -/
def execRlAtHl (s : State) : Result := shiftMem .rl s

/-- 0xCB 0x17 `rl a` (R269). -/
def execRlA (s : State) : Result := shiftR8 .rl .a s

/-- 0xCB 0x18 `rr b` (R271). -/
def execRrB (s : State) : Result := shiftR8 .rr .b s

/-- 0xCB 0x19 `rr c` (R271). -/
def execRrC (s : State) : Result := shiftR8 .rr .c s

/-- 0xCB 0x1A `rr d` (R271). -/
def execRrD (s : State) : Result := shiftR8 .rr .d s

/-- 0xCB 0x1B `rr e` (R271). -/
def execRrE (s : State) : Result := shiftR8 .rr .e s

/-- 0xCB 0x1C `rr h` (R271). -/
def execRrH (s : State) : Result := shiftR8 .rr .h s

/-- 0xCB 0x1D `rr l` (R271). -/
def execRrL (s : State) : Result := shiftR8 .rr .l s

/-- 0xCB 0x1E `rr [hl]` (R272). -/
def execRrAtHl (s : State) : Result := shiftMem .rr s

/-- 0xCB 0x1F `rr a` (R271). -/
def execRrA (s : State) : Result := shiftR8 .rr .a s

/-- 0xCB 0x20 `sla b` (R273). -/
def execSlaB (s : State) : Result := shiftR8 .sla .b s

/-- 0xCB 0x21 `sla c` (R273). -/
def execSlaC (s : State) : Result := shiftR8 .sla .c s

/-- 0xCB 0x22 `sla d` (R273). -/
def execSlaD (s : State) : Result := shiftR8 .sla .d s

/-- 0xCB 0x23 `sla e` (R273). -/
def execSlaE (s : State) : Result := shiftR8 .sla .e s

/-- 0xCB 0x24 `sla h` (R273). -/
def execSlaH (s : State) : Result := shiftR8 .sla .h s

/-- 0xCB 0x25 `sla l` (R273). -/
def execSlaL (s : State) : Result := shiftR8 .sla .l s

/-- 0xCB 0x26 `sla [hl]` (R274). -/
def execSlaAtHl (s : State) : Result := shiftMem .sla s

/-- 0xCB 0x27 `sla a` (R273). -/
def execSlaA (s : State) : Result := shiftR8 .sla .a s

/-- 0xCB 0x28 `sra b` (R275). -/
def execSraB (s : State) : Result := shiftR8 .sra .b s

/-- 0xCB 0x29 `sra c` (R275). -/
def execSraC (s : State) : Result := shiftR8 .sra .c s

/-- 0xCB 0x2A `sra d` (R275). -/
def execSraD (s : State) : Result := shiftR8 .sra .d s

/-- 0xCB 0x2B `sra e` (R275). -/
def execSraE (s : State) : Result := shiftR8 .sra .e s

/-- 0xCB 0x2C `sra h` (R275). -/
def execSraH (s : State) : Result := shiftR8 .sra .h s

/-- 0xCB 0x2D `sra l` (R275). -/
def execSraL (s : State) : Result := shiftR8 .sra .l s

/-- 0xCB 0x2E `sra [hl]` (R276). -/
def execSraAtHl (s : State) : Result := shiftMem .sra s

/-- 0xCB 0x2F `sra a` (R275). -/
def execSraA (s : State) : Result := shiftR8 .sra .a s

/-- 0xCB 0x30 `swap b` (R277). -/
def execSwapB (s : State) : Result := shiftR8 .swap .b s

/-- 0xCB 0x31 `swap c` (R277). -/
def execSwapC (s : State) : Result := shiftR8 .swap .c s

/-- 0xCB 0x32 `swap d` (R277). -/
def execSwapD (s : State) : Result := shiftR8 .swap .d s

/-- 0xCB 0x33 `swap e` (R277). -/
def execSwapE (s : State) : Result := shiftR8 .swap .e s

/-- 0xCB 0x34 `swap h` (R277). -/
def execSwapH (s : State) : Result := shiftR8 .swap .h s

/-- 0xCB 0x35 `swap l` (R277). -/
def execSwapL (s : State) : Result := shiftR8 .swap .l s

/-- 0xCB 0x36 `swap [hl]` (R278). -/
def execSwapAtHl (s : State) : Result := shiftMem .swap s

/-- 0xCB 0x37 `swap a` (R277). -/
def execSwapA (s : State) : Result := shiftR8 .swap .a s

/-- 0xCB 0x38 `srl b` (R279). -/
def execSrlB (s : State) : Result := shiftR8 .srl .b s

/-- 0xCB 0x39 `srl c` (R279). -/
def execSrlC (s : State) : Result := shiftR8 .srl .c s

/-- 0xCB 0x3A `srl d` (R279). -/
def execSrlD (s : State) : Result := shiftR8 .srl .d s

/-- 0xCB 0x3B `srl e` (R279). -/
def execSrlE (s : State) : Result := shiftR8 .srl .e s

/-- 0xCB 0x3C `srl h` (R279). -/
def execSrlH (s : State) : Result := shiftR8 .srl .h s

/-- 0xCB 0x3D `srl l` (R279). -/
def execSrlL (s : State) : Result := shiftR8 .srl .l s

/-- 0xCB 0x3E `srl [hl]` (R280). -/
def execSrlAtHl (s : State) : Result := shiftMem .srl s

/-- 0xCB 0x3F `srl a` (R279). -/
def execSrlA (s : State) : Result := shiftR8 .srl .a s

/-- 0xCB 0x40 `bit 0, b` (R281). -/
def execBit0B (s : State) : Result := bitR8 0 .b s

/-- 0xCB 0x41 `bit 0, c` (R281). -/
def execBit0C (s : State) : Result := bitR8 0 .c s

/-- 0xCB 0x42 `bit 0, d` (R281). -/
def execBit0D (s : State) : Result := bitR8 0 .d s

/-- 0xCB 0x43 `bit 0, e` (R281). -/
def execBit0E (s : State) : Result := bitR8 0 .e s

/-- 0xCB 0x44 `bit 0, h` (R281). -/
def execBit0H (s : State) : Result := bitR8 0 .h s

/-- 0xCB 0x45 `bit 0, l` (R281). -/
def execBit0L (s : State) : Result := bitR8 0 .l s

/-- 0xCB 0x46 `bit 0, [hl]` (R282). -/
def execBit0AtHl (s : State) : Result := bitMem 0 s

/-- 0xCB 0x47 `bit 0, a` (R281). -/
def execBit0A (s : State) : Result := bitR8 0 .a s

/-- 0xCB 0x48 `bit 1, b` (R281). -/
def execBit1B (s : State) : Result := bitR8 1 .b s

/-- 0xCB 0x49 `bit 1, c` (R281). -/
def execBit1C (s : State) : Result := bitR8 1 .c s

/-- 0xCB 0x4A `bit 1, d` (R281). -/
def execBit1D (s : State) : Result := bitR8 1 .d s

/-- 0xCB 0x4B `bit 1, e` (R281). -/
def execBit1E (s : State) : Result := bitR8 1 .e s

/-- 0xCB 0x4C `bit 1, h` (R281). -/
def execBit1H (s : State) : Result := bitR8 1 .h s

/-- 0xCB 0x4D `bit 1, l` (R281). -/
def execBit1L (s : State) : Result := bitR8 1 .l s

/-- 0xCB 0x4E `bit 1, [hl]` (R282). -/
def execBit1AtHl (s : State) : Result := bitMem 1 s

/-- 0xCB 0x4F `bit 1, a` (R281). -/
def execBit1A (s : State) : Result := bitR8 1 .a s

/-- 0xCB 0x50 `bit 2, b` (R281). -/
def execBit2B (s : State) : Result := bitR8 2 .b s

/-- 0xCB 0x51 `bit 2, c` (R281). -/
def execBit2C (s : State) : Result := bitR8 2 .c s

/-- 0xCB 0x52 `bit 2, d` (R281). -/
def execBit2D (s : State) : Result := bitR8 2 .d s

/-- 0xCB 0x53 `bit 2, e` (R281). -/
def execBit2E (s : State) : Result := bitR8 2 .e s

/-- 0xCB 0x54 `bit 2, h` (R281). -/
def execBit2H (s : State) : Result := bitR8 2 .h s

/-- 0xCB 0x55 `bit 2, l` (R281). -/
def execBit2L (s : State) : Result := bitR8 2 .l s

/-- 0xCB 0x56 `bit 2, [hl]` (R282). -/
def execBit2AtHl (s : State) : Result := bitMem 2 s

/-- 0xCB 0x57 `bit 2, a` (R281). -/
def execBit2A (s : State) : Result := bitR8 2 .a s

/-- 0xCB 0x58 `bit 3, b` (R281). -/
def execBit3B (s : State) : Result := bitR8 3 .b s

/-- 0xCB 0x59 `bit 3, c` (R281). -/
def execBit3C (s : State) : Result := bitR8 3 .c s

/-- 0xCB 0x5A `bit 3, d` (R281). -/
def execBit3D (s : State) : Result := bitR8 3 .d s

/-- 0xCB 0x5B `bit 3, e` (R281). -/
def execBit3E (s : State) : Result := bitR8 3 .e s

/-- 0xCB 0x5C `bit 3, h` (R281). -/
def execBit3H (s : State) : Result := bitR8 3 .h s

/-- 0xCB 0x5D `bit 3, l` (R281). -/
def execBit3L (s : State) : Result := bitR8 3 .l s

/-- 0xCB 0x5E `bit 3, [hl]` (R282). -/
def execBit3AtHl (s : State) : Result := bitMem 3 s

/-- 0xCB 0x5F `bit 3, a` (R281). -/
def execBit3A (s : State) : Result := bitR8 3 .a s

/-- 0xCB 0x60 `bit 4, b` (R281). -/
def execBit4B (s : State) : Result := bitR8 4 .b s

/-- 0xCB 0x61 `bit 4, c` (R281). -/
def execBit4C (s : State) : Result := bitR8 4 .c s

/-- 0xCB 0x62 `bit 4, d` (R281). -/
def execBit4D (s : State) : Result := bitR8 4 .d s

/-- 0xCB 0x63 `bit 4, e` (R281). -/
def execBit4E (s : State) : Result := bitR8 4 .e s

/-- 0xCB 0x64 `bit 4, h` (R281). -/
def execBit4H (s : State) : Result := bitR8 4 .h s

/-- 0xCB 0x65 `bit 4, l` (R281). -/
def execBit4L (s : State) : Result := bitR8 4 .l s

/-- 0xCB 0x66 `bit 4, [hl]` (R282). -/
def execBit4AtHl (s : State) : Result := bitMem 4 s

/-- 0xCB 0x67 `bit 4, a` (R281). -/
def execBit4A (s : State) : Result := bitR8 4 .a s

/-- 0xCB 0x68 `bit 5, b` (R281). -/
def execBit5B (s : State) : Result := bitR8 5 .b s

/-- 0xCB 0x69 `bit 5, c` (R281). -/
def execBit5C (s : State) : Result := bitR8 5 .c s

/-- 0xCB 0x6A `bit 5, d` (R281). -/
def execBit5D (s : State) : Result := bitR8 5 .d s

/-- 0xCB 0x6B `bit 5, e` (R281). -/
def execBit5E (s : State) : Result := bitR8 5 .e s

/-- 0xCB 0x6C `bit 5, h` (R281). -/
def execBit5H (s : State) : Result := bitR8 5 .h s

/-- 0xCB 0x6D `bit 5, l` (R281). -/
def execBit5L (s : State) : Result := bitR8 5 .l s

/-- 0xCB 0x6E `bit 5, [hl]` (R282). -/
def execBit5AtHl (s : State) : Result := bitMem 5 s

/-- 0xCB 0x6F `bit 5, a` (R281). -/
def execBit5A (s : State) : Result := bitR8 5 .a s

/-- 0xCB 0x70 `bit 6, b` (R281). -/
def execBit6B (s : State) : Result := bitR8 6 .b s

/-- 0xCB 0x71 `bit 6, c` (R281). -/
def execBit6C (s : State) : Result := bitR8 6 .c s

/-- 0xCB 0x72 `bit 6, d` (R281). -/
def execBit6D (s : State) : Result := bitR8 6 .d s

/-- 0xCB 0x73 `bit 6, e` (R281). -/
def execBit6E (s : State) : Result := bitR8 6 .e s

/-- 0xCB 0x74 `bit 6, h` (R281). -/
def execBit6H (s : State) : Result := bitR8 6 .h s

/-- 0xCB 0x75 `bit 6, l` (R281). -/
def execBit6L (s : State) : Result := bitR8 6 .l s

/-- 0xCB 0x76 `bit 6, [hl]` (R282). -/
def execBit6AtHl (s : State) : Result := bitMem 6 s

/-- 0xCB 0x77 `bit 6, a` (R281). -/
def execBit6A (s : State) : Result := bitR8 6 .a s

/-- 0xCB 0x78 `bit 7, b` (R281). -/
def execBit7B (s : State) : Result := bitR8 7 .b s

/-- 0xCB 0x79 `bit 7, c` (R281). -/
def execBit7C (s : State) : Result := bitR8 7 .c s

/-- 0xCB 0x7A `bit 7, d` (R281). -/
def execBit7D (s : State) : Result := bitR8 7 .d s

/-- 0xCB 0x7B `bit 7, e` (R281). -/
def execBit7E (s : State) : Result := bitR8 7 .e s

/-- 0xCB 0x7C `bit 7, h` (R281). -/
def execBit7H (s : State) : Result := bitR8 7 .h s

/-- 0xCB 0x7D `bit 7, l` (R281). -/
def execBit7L (s : State) : Result := bitR8 7 .l s

/-- 0xCB 0x7E `bit 7, [hl]` (R282). -/
def execBit7AtHl (s : State) : Result := bitMem 7 s

/-- 0xCB 0x7F `bit 7, a` (R281). -/
def execBit7A (s : State) : Result := bitR8 7 .a s

/-- 0xCB 0x80 `res 0, b` (R283). -/
def execRes0B (s : State) : Result := resR8 0 .b s

/-- 0xCB 0x81 `res 0, c` (R283). -/
def execRes0C (s : State) : Result := resR8 0 .c s

/-- 0xCB 0x82 `res 0, d` (R283). -/
def execRes0D (s : State) : Result := resR8 0 .d s

/-- 0xCB 0x83 `res 0, e` (R283). -/
def execRes0E (s : State) : Result := resR8 0 .e s

/-- 0xCB 0x84 `res 0, h` (R283). -/
def execRes0H (s : State) : Result := resR8 0 .h s

/-- 0xCB 0x85 `res 0, l` (R283). -/
def execRes0L (s : State) : Result := resR8 0 .l s

/-- 0xCB 0x86 `res 0, [hl]` (R284). -/
def execRes0AtHl (s : State) : Result := resMem 0 s

/-- 0xCB 0x87 `res 0, a` (R283). -/
def execRes0A (s : State) : Result := resR8 0 .a s

/-- 0xCB 0x88 `res 1, b` (R283). -/
def execRes1B (s : State) : Result := resR8 1 .b s

/-- 0xCB 0x89 `res 1, c` (R283). -/
def execRes1C (s : State) : Result := resR8 1 .c s

/-- 0xCB 0x8A `res 1, d` (R283). -/
def execRes1D (s : State) : Result := resR8 1 .d s

/-- 0xCB 0x8B `res 1, e` (R283). -/
def execRes1E (s : State) : Result := resR8 1 .e s

/-- 0xCB 0x8C `res 1, h` (R283). -/
def execRes1H (s : State) : Result := resR8 1 .h s

/-- 0xCB 0x8D `res 1, l` (R283). -/
def execRes1L (s : State) : Result := resR8 1 .l s

/-- 0xCB 0x8E `res 1, [hl]` (R284). -/
def execRes1AtHl (s : State) : Result := resMem 1 s

/-- 0xCB 0x8F `res 1, a` (R283). -/
def execRes1A (s : State) : Result := resR8 1 .a s

/-- 0xCB 0x90 `res 2, b` (R283). -/
def execRes2B (s : State) : Result := resR8 2 .b s

/-- 0xCB 0x91 `res 2, c` (R283). -/
def execRes2C (s : State) : Result := resR8 2 .c s

/-- 0xCB 0x92 `res 2, d` (R283). -/
def execRes2D (s : State) : Result := resR8 2 .d s

/-- 0xCB 0x93 `res 2, e` (R283). -/
def execRes2E (s : State) : Result := resR8 2 .e s

/-- 0xCB 0x94 `res 2, h` (R283). -/
def execRes2H (s : State) : Result := resR8 2 .h s

/-- 0xCB 0x95 `res 2, l` (R283). -/
def execRes2L (s : State) : Result := resR8 2 .l s

/-- 0xCB 0x96 `res 2, [hl]` (R284). -/
def execRes2AtHl (s : State) : Result := resMem 2 s

/-- 0xCB 0x97 `res 2, a` (R283). -/
def execRes2A (s : State) : Result := resR8 2 .a s

/-- 0xCB 0x98 `res 3, b` (R283). -/
def execRes3B (s : State) : Result := resR8 3 .b s

/-- 0xCB 0x99 `res 3, c` (R283). -/
def execRes3C (s : State) : Result := resR8 3 .c s

/-- 0xCB 0x9A `res 3, d` (R283). -/
def execRes3D (s : State) : Result := resR8 3 .d s

/-- 0xCB 0x9B `res 3, e` (R283). -/
def execRes3E (s : State) : Result := resR8 3 .e s

/-- 0xCB 0x9C `res 3, h` (R283). -/
def execRes3H (s : State) : Result := resR8 3 .h s

/-- 0xCB 0x9D `res 3, l` (R283). -/
def execRes3L (s : State) : Result := resR8 3 .l s

/-- 0xCB 0x9E `res 3, [hl]` (R284). -/
def execRes3AtHl (s : State) : Result := resMem 3 s

/-- 0xCB 0x9F `res 3, a` (R283). -/
def execRes3A (s : State) : Result := resR8 3 .a s

/-- 0xCB 0xA0 `res 4, b` (R283). -/
def execRes4B (s : State) : Result := resR8 4 .b s

/-- 0xCB 0xA1 `res 4, c` (R283). -/
def execRes4C (s : State) : Result := resR8 4 .c s

/-- 0xCB 0xA2 `res 4, d` (R283). -/
def execRes4D (s : State) : Result := resR8 4 .d s

/-- 0xCB 0xA3 `res 4, e` (R283). -/
def execRes4E (s : State) : Result := resR8 4 .e s

/-- 0xCB 0xA4 `res 4, h` (R283). -/
def execRes4H (s : State) : Result := resR8 4 .h s

/-- 0xCB 0xA5 `res 4, l` (R283). -/
def execRes4L (s : State) : Result := resR8 4 .l s

/-- 0xCB 0xA6 `res 4, [hl]` (R284). -/
def execRes4AtHl (s : State) : Result := resMem 4 s

/-- 0xCB 0xA7 `res 4, a` (R283). -/
def execRes4A (s : State) : Result := resR8 4 .a s

/-- 0xCB 0xA8 `res 5, b` (R283). -/
def execRes5B (s : State) : Result := resR8 5 .b s

/-- 0xCB 0xA9 `res 5, c` (R283). -/
def execRes5C (s : State) : Result := resR8 5 .c s

/-- 0xCB 0xAA `res 5, d` (R283). -/
def execRes5D (s : State) : Result := resR8 5 .d s

/-- 0xCB 0xAB `res 5, e` (R283). -/
def execRes5E (s : State) : Result := resR8 5 .e s

/-- 0xCB 0xAC `res 5, h` (R283). -/
def execRes5H (s : State) : Result := resR8 5 .h s

/-- 0xCB 0xAD `res 5, l` (R283). -/
def execRes5L (s : State) : Result := resR8 5 .l s

/-- 0xCB 0xAE `res 5, [hl]` (R284). -/
def execRes5AtHl (s : State) : Result := resMem 5 s

/-- 0xCB 0xAF `res 5, a` (R283). -/
def execRes5A (s : State) : Result := resR8 5 .a s

/-- 0xCB 0xB0 `res 6, b` (R283). -/
def execRes6B (s : State) : Result := resR8 6 .b s

/-- 0xCB 0xB1 `res 6, c` (R283). -/
def execRes6C (s : State) : Result := resR8 6 .c s

/-- 0xCB 0xB2 `res 6, d` (R283). -/
def execRes6D (s : State) : Result := resR8 6 .d s

/-- 0xCB 0xB3 `res 6, e` (R283). -/
def execRes6E (s : State) : Result := resR8 6 .e s

/-- 0xCB 0xB4 `res 6, h` (R283). -/
def execRes6H (s : State) : Result := resR8 6 .h s

/-- 0xCB 0xB5 `res 6, l` (R283). -/
def execRes6L (s : State) : Result := resR8 6 .l s

/-- 0xCB 0xB6 `res 6, [hl]` (R284). -/
def execRes6AtHl (s : State) : Result := resMem 6 s

/-- 0xCB 0xB7 `res 6, a` (R283). -/
def execRes6A (s : State) : Result := resR8 6 .a s

/-- 0xCB 0xB8 `res 7, b` (R283). -/
def execRes7B (s : State) : Result := resR8 7 .b s

/-- 0xCB 0xB9 `res 7, c` (R283). -/
def execRes7C (s : State) : Result := resR8 7 .c s

/-- 0xCB 0xBA `res 7, d` (R283). -/
def execRes7D (s : State) : Result := resR8 7 .d s

/-- 0xCB 0xBB `res 7, e` (R283). -/
def execRes7E (s : State) : Result := resR8 7 .e s

/-- 0xCB 0xBC `res 7, h` (R283). -/
def execRes7H (s : State) : Result := resR8 7 .h s

/-- 0xCB 0xBD `res 7, l` (R283). -/
def execRes7L (s : State) : Result := resR8 7 .l s

/-- 0xCB 0xBE `res 7, [hl]` (R284). -/
def execRes7AtHl (s : State) : Result := resMem 7 s

/-- 0xCB 0xBF `res 7, a` (R283). -/
def execRes7A (s : State) : Result := resR8 7 .a s

/-- 0xCB 0xC0 `set 0, b` (R285). -/
def execSet0B (s : State) : Result := setR8Bit 0 .b s

/-- 0xCB 0xC1 `set 0, c` (R285). -/
def execSet0C (s : State) : Result := setR8Bit 0 .c s

/-- 0xCB 0xC2 `set 0, d` (R285). -/
def execSet0D (s : State) : Result := setR8Bit 0 .d s

/-- 0xCB 0xC3 `set 0, e` (R285). -/
def execSet0E (s : State) : Result := setR8Bit 0 .e s

/-- 0xCB 0xC4 `set 0, h` (R285). -/
def execSet0H (s : State) : Result := setR8Bit 0 .h s

/-- 0xCB 0xC5 `set 0, l` (R285). -/
def execSet0L (s : State) : Result := setR8Bit 0 .l s

/-- 0xCB 0xC6 `set 0, [hl]` (R286). -/
def execSet0AtHl (s : State) : Result := setMem 0 s

/-- 0xCB 0xC7 `set 0, a` (R285). -/
def execSet0A (s : State) : Result := setR8Bit 0 .a s

/-- 0xCB 0xC8 `set 1, b` (R285). -/
def execSet1B (s : State) : Result := setR8Bit 1 .b s

/-- 0xCB 0xC9 `set 1, c` (R285). -/
def execSet1C (s : State) : Result := setR8Bit 1 .c s

/-- 0xCB 0xCA `set 1, d` (R285). -/
def execSet1D (s : State) : Result := setR8Bit 1 .d s

/-- 0xCB 0xCB `set 1, e` (R285). -/
def execSet1E (s : State) : Result := setR8Bit 1 .e s

/-- 0xCB 0xCC `set 1, h` (R285). -/
def execSet1H (s : State) : Result := setR8Bit 1 .h s

/-- 0xCB 0xCD `set 1, l` (R285). -/
def execSet1L (s : State) : Result := setR8Bit 1 .l s

/-- 0xCB 0xCE `set 1, [hl]` (R286). -/
def execSet1AtHl (s : State) : Result := setMem 1 s

/-- 0xCB 0xCF `set 1, a` (R285). -/
def execSet1A (s : State) : Result := setR8Bit 1 .a s

/-- 0xCB 0xD0 `set 2, b` (R285). -/
def execSet2B (s : State) : Result := setR8Bit 2 .b s

/-- 0xCB 0xD1 `set 2, c` (R285). -/
def execSet2C (s : State) : Result := setR8Bit 2 .c s

/-- 0xCB 0xD2 `set 2, d` (R285). -/
def execSet2D (s : State) : Result := setR8Bit 2 .d s

/-- 0xCB 0xD3 `set 2, e` (R285). -/
def execSet2E (s : State) : Result := setR8Bit 2 .e s

/-- 0xCB 0xD4 `set 2, h` (R285). -/
def execSet2H (s : State) : Result := setR8Bit 2 .h s

/-- 0xCB 0xD5 `set 2, l` (R285). -/
def execSet2L (s : State) : Result := setR8Bit 2 .l s

/-- 0xCB 0xD6 `set 2, [hl]` (R286). -/
def execSet2AtHl (s : State) : Result := setMem 2 s

/-- 0xCB 0xD7 `set 2, a` (R285). -/
def execSet2A (s : State) : Result := setR8Bit 2 .a s

/-- 0xCB 0xD8 `set 3, b` (R285). -/
def execSet3B (s : State) : Result := setR8Bit 3 .b s

/-- 0xCB 0xD9 `set 3, c` (R285). -/
def execSet3C (s : State) : Result := setR8Bit 3 .c s

/-- 0xCB 0xDA `set 3, d` (R285). -/
def execSet3D (s : State) : Result := setR8Bit 3 .d s

/-- 0xCB 0xDB `set 3, e` (R285). -/
def execSet3E (s : State) : Result := setR8Bit 3 .e s

/-- 0xCB 0xDC `set 3, h` (R285). -/
def execSet3H (s : State) : Result := setR8Bit 3 .h s

/-- 0xCB 0xDD `set 3, l` (R285). -/
def execSet3L (s : State) : Result := setR8Bit 3 .l s

/-- 0xCB 0xDE `set 3, [hl]` (R286). -/
def execSet3AtHl (s : State) : Result := setMem 3 s

/-- 0xCB 0xDF `set 3, a` (R285). -/
def execSet3A (s : State) : Result := setR8Bit 3 .a s

/-- 0xCB 0xE0 `set 4, b` (R285). -/
def execSet4B (s : State) : Result := setR8Bit 4 .b s

/-- 0xCB 0xE1 `set 4, c` (R285). -/
def execSet4C (s : State) : Result := setR8Bit 4 .c s

/-- 0xCB 0xE2 `set 4, d` (R285). -/
def execSet4D (s : State) : Result := setR8Bit 4 .d s

/-- 0xCB 0xE3 `set 4, e` (R285). -/
def execSet4E (s : State) : Result := setR8Bit 4 .e s

/-- 0xCB 0xE4 `set 4, h` (R285). -/
def execSet4H (s : State) : Result := setR8Bit 4 .h s

/-- 0xCB 0xE5 `set 4, l` (R285). -/
def execSet4L (s : State) : Result := setR8Bit 4 .l s

/-- 0xCB 0xE6 `set 4, [hl]` (R286). -/
def execSet4AtHl (s : State) : Result := setMem 4 s

/-- 0xCB 0xE7 `set 4, a` (R285). -/
def execSet4A (s : State) : Result := setR8Bit 4 .a s

/-- 0xCB 0xE8 `set 5, b` (R285). -/
def execSet5B (s : State) : Result := setR8Bit 5 .b s

/-- 0xCB 0xE9 `set 5, c` (R285). -/
def execSet5C (s : State) : Result := setR8Bit 5 .c s

/-- 0xCB 0xEA `set 5, d` (R285). -/
def execSet5D (s : State) : Result := setR8Bit 5 .d s

/-- 0xCB 0xEB `set 5, e` (R285). -/
def execSet5E (s : State) : Result := setR8Bit 5 .e s

/-- 0xCB 0xEC `set 5, h` (R285). -/
def execSet5H (s : State) : Result := setR8Bit 5 .h s

/-- 0xCB 0xED `set 5, l` (R285). -/
def execSet5L (s : State) : Result := setR8Bit 5 .l s

/-- 0xCB 0xEE `set 5, [hl]` (R286). -/
def execSet5AtHl (s : State) : Result := setMem 5 s

/-- 0xCB 0xEF `set 5, a` (R285). -/
def execSet5A (s : State) : Result := setR8Bit 5 .a s

/-- 0xCB 0xF0 `set 6, b` (R285). -/
def execSet6B (s : State) : Result := setR8Bit 6 .b s

/-- 0xCB 0xF1 `set 6, c` (R285). -/
def execSet6C (s : State) : Result := setR8Bit 6 .c s

/-- 0xCB 0xF2 `set 6, d` (R285). -/
def execSet6D (s : State) : Result := setR8Bit 6 .d s

/-- 0xCB 0xF3 `set 6, e` (R285). -/
def execSet6E (s : State) : Result := setR8Bit 6 .e s

/-- 0xCB 0xF4 `set 6, h` (R285). -/
def execSet6H (s : State) : Result := setR8Bit 6 .h s

/-- 0xCB 0xF5 `set 6, l` (R285). -/
def execSet6L (s : State) : Result := setR8Bit 6 .l s

/-- 0xCB 0xF6 `set 6, [hl]` (R286). -/
def execSet6AtHl (s : State) : Result := setMem 6 s

/-- 0xCB 0xF7 `set 6, a` (R285). -/
def execSet6A (s : State) : Result := setR8Bit 6 .a s

/-- 0xCB 0xF8 `set 7, b` (R285). -/
def execSet7B (s : State) : Result := setR8Bit 7 .b s

/-- 0xCB 0xF9 `set 7, c` (R285). -/
def execSet7C (s : State) : Result := setR8Bit 7 .c s

/-- 0xCB 0xFA `set 7, d` (R285). -/
def execSet7D (s : State) : Result := setR8Bit 7 .d s

/-- 0xCB 0xFB `set 7, e` (R285). -/
def execSet7E (s : State) : Result := setR8Bit 7 .e s

/-- 0xCB 0xFC `set 7, h` (R285). -/
def execSet7H (s : State) : Result := setR8Bit 7 .h s

/-- 0xCB 0xFD `set 7, l` (R285). -/
def execSet7L (s : State) : Result := setR8Bit 7 .l s

/-- 0xCB 0xFE `set 7, [hl]` (R286). -/
def execSet7AtHl (s : State) : Result := setMem 7 s

/-- 0xCB 0xFF `set 7, a` (R285). -/
def execSet7A (s : State) : Result := setR8Bit 7 .a s

end Sys2Proof.Machine
end

