-- ==== Sys2Proof/Machine/SystemOps.lean ====
section
/-! DEFINITION. System instructions and the unassigned primary opcodes (44_system.md R240 to R245): the shared operations, then a
meaning for each opcode. -/

namespace Sys2Proof.Machine

/-- `nop` (44_system.md R240). -/
def noOperation (s : State) : Result := .next (s.retire (s.pc + 1) 1)

/-- `halt` (44_system.md R241): the step ends with the outcome Halted; the core keeps no halted state (log 4). -/
def haltCore (s : State) : Result := .next (s.retireAs .halted (s.pc + 1) 1)

/-- `stop` (44_system.md R242): the byte after the opcode is fetched and ignored. -/
def stopCore (s : State) : Result := .next (s.retireAs .stopped (s.pc + 2) 1)

/-- `di` and `ei` (44_system.md R243, R244): IME is written at once. -/
def setInterruptEnable (v : Bool) (s : State) : Result := .next ({ s with ime := v }.retire (s.pc + 1) 1)

/-- 0x00 `nop` (R240). -/
def execNop (s : State) : Result := noOperation s

/-- 0x10 `stop` (R242). -/
def execStop (s : State) : Result := stopCore s

/-- 0x76 `halt` (R241). -/
def execHalt (s : State) : Result := haltCore s

/-- 0xD3 `(unassigned)` (R245). -/
def execUnassignedD3 (s : State) : Result := raiseUnimplemented 0xD3 false s

/-- 0xDB `(unassigned)` (R245). -/
def execUnassignedDB (s : State) : Result := raiseUnimplemented 0xDB false s

/-- 0xDD `(unassigned)` (R245). -/
def execUnassignedDD (s : State) : Result := raiseUnimplemented 0xDD false s

/-- 0xE3 `(unassigned)` (R245). -/
def execUnassignedE3 (s : State) : Result := raiseUnimplemented 0xE3 false s

/-- 0xE4 `(unassigned)` (R245). -/
def execUnassignedE4 (s : State) : Result := raiseUnimplemented 0xE4 false s

/-- 0xEB `(unassigned)` (R245). -/
def execUnassignedEB (s : State) : Result := raiseUnimplemented 0xEB false s

/-- 0xEC `(unassigned)` (R245). -/
def execUnassignedEC (s : State) : Result := raiseUnimplemented 0xEC false s

/-- 0xED `(unassigned)` (R245). -/
def execUnassignedED (s : State) : Result := raiseUnimplemented 0xED false s

/-- 0xF3 `di` (R243). -/
def execDi (s : State) : Result := setInterruptEnable false s

/-- 0xF4 `(unassigned)` (R245). -/
def execUnassignedF4 (s : State) : Result := raiseUnimplemented 0xF4 false s

/-- 0xFB `ei` (R244). -/
def execEi (s : State) : Result := setInterruptEnable true s

/-- 0xFC `(unassigned)` (R245). -/
def execUnassignedFC (s : State) : Result := raiseUnimplemented 0xFC false s

/-- 0xFD `(unassigned)` (R245). -/
def execUnassignedFD (s : State) : Result := raiseUnimplemented 0xFD false s

end Sys2Proof.Machine
end

