-- ==== Sys2Proof/Machine/Fetch.lean ====
section
/-! DEFINITION. The fetch of one instruction by the dispatch engine (30_encoding.md R94, 10_state.md R33), and the placing of an
instruction where the next fetch finds it. -/

namespace Sys2Proof.Machine

/-- The start of a step: the engine is in Primary-Fetch (10_state.md R33), and no access of this step has happened. -/
def State.beginStep (s : State) : State := { s with dispatch := .primaryFetch, bus := [] }

/-- The fetch of 30_encoding.md R94, in the order of 20_memory.md R59: the opcode at PC; after the prefix 0xCB the engine is in
CB-Fetch and the second opcode is read at PC +16 1; else the immediate bytes, at increasing addresses. PC stays the address of
the first byte (10_state.md R26). -/
def State.fetch (s : State) : Instr × State :=
  let op := s.readByte s.pc
  match primary op.1 with
  | .p1 i => (i, op.2)
  | .p2 k =>
    let n := op.2.readByte (s.pc + 1)
    (k n.1, n.2)
  | .p3 k =>
    let lo := op.2.readByte (s.pc + 1)
    let hi := lo.2.readByte (s.pc + 2)
    (k (joinBytes hi.1 lo.1), hi.2)
  | .cb =>
    let op2 := { op.2 with dispatch := .cbFetch }.readByte (s.pc + 1)
    (secondary op2.1, op2.2)

/-- The state with a table word's three bytes in plain RAM at PC, PC +16 1 and PC +16 2 (log 8, log 11). -/
def State.placeWord (s : State) (nbits w : Nat) : State :=
  { s with accessors := .plainRam, mem := s.mem.writeBytes s.pc (tableBytes nbits w) }

end Sys2Proof.Machine
end

