-- ==== Sys2Proof/Machine/Step.lean ====
section
/-! DEFINITION. One step of the core (30_encoding.md R94). -/

namespace Sys2Proof.Machine

/-- `step` of 30_encoding.md R94, its arguments pc and cycles taken from the state (log 4): fetch one instruction, then execute
it. A step always executes: the budget is tested by run alone (R95). -/
def step (s : State) : Host.Outcome State Fault Refusal :=
  exec s.beginStep.fetch.1 s.beginStep.fetch.2

/-- The state with an instruction placed where the next step fetches it: at PC. -/
def State.withFetchWord (s : State) (nbits w : Nat) : State := s.placeWord nbits w

end Sys2Proof.Machine
end

