-- ==== Sys2Proof/Machine/Caller.lean ====
section
/-! DEFINITION. What the caller may do to the state between steps: the accessors of 10_state.md R36 that are no field or operand
of their own, the memory primitives (60_exceptions.md R313), a collaborator's own action (20_memory.md R62), and the injection of
an interrupt (60_exceptions.md R305). No step calls these. -/

namespace Sys2Proof.Machine

/-- The mutator of SP. -/
def State.pokeSp (s : State) (v : Word) : State := { s with sp := v }

/-- The mutator of PC. -/
def State.pokePc (s : State) (v : Word) : State := { s with pc := v }

/-- The mutator of ZF. -/
def State.pokeZf (s : State) (v : Bool) : State := { s with zf := v }

/-- The mutator of CF. -/
def State.pokeCf (s : State) (v : Bool) : State := { s with cf := v }

/-- The mutator of IME, the spec's addition (10_state.md R36, D7). -/
def State.pokeIme (s : State) (v : Bool) : State := { s with ime := v }

/-- A byte the caller reads between steps with the memory primitive (60_exceptions.md R313): the byte, and the state after the
call. -/
def State.inspectByte (s : State) (addr : Word) : Byte × State := (s.peek addr, s.afterRead addr)

/-- A byte the caller writes between steps (60_exceptions.md R313, 20_memory.md R62). -/
def State.pokeByte (s : State) (addr : Word) (v : Byte) : State := s.store addr v

/-- "A collaborator may change memory only between steps" (20_memory.md R62): behind its own BUS, by coming into another state. On
plain RAM it changes cells with pokeByte, and has no state to change. -/
def State.collaboratorActs (s : State) (k : Nat) : State :=
  { s with accessors := match s.accessors with | .plainRam => .plainRam | .collaborator _ => .collaborator k }

/-- The budget the caller supplies (10_state.md R34). -/
def State.pokeCycles (s : State) (v : Int) : State := { s with cycles := v }

/-- Injection of an interrupt at an instruction boundary (60_exceptions.md R305): the caller reads IME; if it allows an
interrupt, it enters the handler and clears IME (D27: "push pc, set pc, clear IME"). The core charges nothing (R305, item 4). -/
def State.injectInterrupt (s : State) (handler : Word) : Option State :=
  if s.ime then some ((s.enterHandler handler).pokeIme false) else none

end Sys2Proof.Machine
end

