-- ==== Sys2Proof/Machine/Run.lean ====
section
/-! DEFINITION. `step` and `run` with the arguments and results the spec gives them (30_encoding.md R94, R95). -/

namespace Sys2Proof.Machine

/-- `step(pc, cycles_remaining)` (30_encoding.md R94): "PC is set to the pc argument before the fetch" (D38). -/
def stepAt (pc : Word) (cycles : Int) (s : State) : Result := step { s with pc := pc, cycles := cycles }

/-- How a run ends (30_encoding.md R95, 60_exceptions.md R300). -/
inductive RunEnd where
  /-- by the budget -/
  | ok
  | halted
  | stopped
  | fault (f : Fault)
  /-- a step was refused; no instruction of this model is -/
  | refused (r : Refusal)
  /-- the steps allowed ran out first; with a well-formed RET_CC_TAKEN_COST this never happens (log 12) -/
  | unfinished
deriving DecidableEq, Repr

/-- What run returns: the outcome, the final pc, the remaining budget (`cycles_overrun`), and the state it leaves. -/
structure RunResult where
  ending : RunEnd
  pc : Word
  cycles : Int
  state : State
deriving DecidableEq, Repr

/-- The result that ends a run in a state. -/
def RunResult.of (e : RunEnd) (s : State) : RunResult := { ending := e, pc := s.pc, cycles := s.cycles, state := s }

/-- The loop of 30_encoding.md R95, for at most n steps: test the budget, step, stop early on Halted, Stopped or the fault. On
the fault the state, pc and budget are those before the step; only a collaborator's BUS has seen the step's one access,
"the opcode fetch at PC" (60_exceptions.md R301; log 6). -/
def runSteps : Nat → State → RunResult
  | 0, s => if s.cycles ≤ 0 then .of .ok s else .of .unfinished s
  | n + 1, s =>
    if s.cycles ≤ 0 then .of .ok s
    else
      match step s with
      | .fault f => .of (.fault f) (s.afterRead s.pc)
      | .refused r => .of (.refused r) s
      | .next t =>
        match t.outcome with
        | .halted => .of .halted t
        | .stopped => .of .stopped t
        | .ok => runSteps n t

/-- `run(pc, budget)` (30_encoding.md R95). Every cost is at least 1, so a budget of n is used up within n steps (log 12).
DESIGN CHOICE, unsafe (log 15): the state's PC and budget become the arguments also when the budget is 0 or less and no step is
taken. The spec writes PC inside step only (R94, D38), calls that run "a no-op" (D25), and does not say which PC it leaves. -/
def run (pc : Word) (budget : Int) (s : State) : RunResult := runSteps budget.toNat { s with pc := pc, cycles := budget }

end Sys2Proof.Machine
end

