-- ==== Sys2Proof/Safety.lean ====
section
/-! DEFINITION. What a safe run is, in the terms claims use. -/

namespace Sys2Proof

/-- k steps from a state complete: none of them raises UnimplementedOpcode (60_exceptions.md R301), the one way this core stops
on its own. -/
def safeFor (k : Nat) (s : Machine.State) : Prop := ∃ t, Host.Core.run core k s = .next t

/-- The opcode bytes whose execution faults (30_encoding.md R92: "These twelve primary opcodes are the only encodings that
fault"). -/
def faultingOpcodes : List Byte := [0xD3, 0xDB, 0xDD, 0xE3, 0xE4, 0xEB, 0xEC, 0xED, 0xF4, 0xFC, 0xFD, 0x27]

/-- A state whose next step does not fault: the byte at PC is none of the twelve. -/
def nextStepSafe (s : Machine.State) : Bool := !faultingOpcodes.contains (s.peek s.pc)

end Sys2Proof
end

