-- ==== Sys2Proof/Certificates/Slice0/Obligations.lean ====
section
/-! DEFINITION. The statements about the core, one `def Obligations.<Name> : Prop` each. The helpers under `Sys2Proof.Stmt` write
the spec's own formulas over exact numbers, so that a statement says what a rule says and does not repeat the model's
definition. Encodings and cycle counts are those the numbered rules give; the spec marks them as its decisions D2 and D3. -/

namespace Sys2Proof.Stmt

open Sys2Proof.Machine

/-- `hi ++ lo` as the number `hi*256 + lo` (00_scope.md R9). -/
def word (hi lo : Byte) : Word := BitVec.ofNat 16 (hi.toNat * 256 + lo.toNat)

/-- `v[7:0]` as a number. -/
def lo (v : Word) : Byte := BitVec.ofNat 8 (v.toNat % 256)

/-- `v[15:8]` as a number. -/
def hi (v : Word) : Byte := BitVec.ofNat 8 (v.toNat / 256)

/-- HL, "`[hl]` forms address as `h*256+l`" (40_loads.md). -/
def hl (s : State) : Word := word s.h s.l

/-- A register pair (10_state.md R23). -/
def pair (s : State) (q : Pair) : Word :=
  match q with
  | .bc => word s.b s.c
  | .de => word s.d s.e
  | .hl => word s.h s.l

/-- Writing a register pair: the high register gets `v[15:8]`, the low register `v[7:0]` (10_state.md R23). -/
def putPair (s : State) (q : Pair) (v : Word) : State :=
  match q with
  | .bc => { s with b := hi v, c := lo v }
  | .de => { s with d := hi v, e := lo v }
  | .hl => { s with h := hi v, l := lo v }

/-- `R16[ss]` (30_encoding.md R83). -/
def reg16 (s : State) (ss : R16) : Word :=
  match ss with
  | .bc => word s.b s.c
  | .de => word s.d s.e
  | .hl => word s.h s.l
  | .sp => s.sp

/-- `R16[ss] <- v`. -/
def putReg16 (s : State) (ss : R16) (v : Word) : State :=
  match ss with
  | .bc => { s with b := hi v, c := lo v }
  | .de => { s with d := hi v, e := lo v }
  | .hl => { s with h := hi v, l := lo v }
  | .sp => { s with sp := v }

/-- The end of a step: `pc <- target; cost n; outcome o` (00_scope.md R13); the engine is back in Primary-Fetch (R33). -/
def ends (s : State) (o : StepOutcome) (target : Word) (cost : Nat) : State :=
  { s with pc := target, cycles := s.cycles - cost, outcome := o, dispatch := .primaryFetch }

/-- The end of a step with the outcome Ok. -/
def ok (s : State) (target : Word) (cost : Nat) : State := ends s .ok target cost

/-- BUS after one access: plain RAM keeps no state of its own, a collaborator's state moves as its accessors say (log 6). -/
def busAfter (b : Bus) (x : Access) : Bus :=
  match x with
  | .read a =>
    match b with
    | .plainRam => .plainRam
    | .collaborator k => .collaborator (Config.collaboratorRead k a).2
  | .write a v =>
    match b with
    | .plainRam => .plainRam
    | .collaborator k => .collaborator (Config.collaboratorWrite k a v)

/-- The plain RAM's cells after one access. -/
def cellsAfter (b : Bus) (m : Memory) (x : Access) : Memory :=
  match x with
  | .read _ => m
  | .write a v =>
    match b with
    | .plainRam => m.write a.toNat v
    | .collaborator _ => m

/-- The state after one access, the access recorded in the model's own field (log 5). -/
def saw1 (s : State) (x : Access) : State :=
  { s with mem := cellsAfter s.accessors s.mem x, accessors := busAfter s.accessors x, bus := s.bus ++ [x] }

/-- The state after the accesses listed, one after the other. -/
def saw (s : State) (as : List Access) : State := as.foldl saw1 s

/-- The state after accesses of the caller, which the core's record does not hold. -/
def callerDid (s : State) (as : List Access) : State := { saw s as with bus := s.bus }

/-- The state after one byte write (20_memory.md R51). -/
def stored (s : State) (addr : Word) (v : Byte) : State := saw s [.write addr v]

/-- The state after a word write: low byte at addr, then high byte at addr +16 1 (20_memory.md R53). -/
def storedWord (s : State) (addr v : Word) : State := stored (stored s addr (lo v)) (addr + 1) (hi v)

/-- `Push16(v)` (40_loads.md R130). -/
def pushed (s : State) (v : Word) : State := storedWord { s with sp := s.sp - 2 } (s.sp - 2) v

/-- The word `read_word(addr)` returns (20_memory.md R52): the byte at addr, then, after that read, the byte at addr +16 1. -/
def wordAt (s : State) (addr : Word) : Word := word ((saw s [.read addr]).peek (addr + 1)) (s.peek addr)

/-- The word `Pop16()` returns (40_loads.md R131). -/
def popValue (s : State) : Word := wordAt s s.sp

/-- The state after `Pop16()`. -/
def popped (s : State) : State := { saw s [.read s.sp, .read (s.sp + 1)] with sp := s.sp + 2 }

/-- The three bytes that reads at PC, PC +16 1 and PC +16 2, one after the other, return. -/
def nextBytes (s : State) : List Byte :=
  [s.peek s.pc, (saw s [.read s.pc]).peek (s.pc + 1), (saw s [.read s.pc, .read (s.pc + 1)]).peek (s.pc + 2)]

/-- The bytes are the encoding of the instruction: they decode to it, with nothing left, and it encodes to them. -/
def coded (bs : List Byte) (i : Instr) : Prop := decode bs = .ok (i, []) ∧ encode i = bs

/-- An opcode byte given as a number. -/
def op (n : Nat) : Byte := BitVec.ofNat 8 n

/-- The state with A, ZF and CF written from numbers and conditions. -/
def flagged (s : State) (acc : Nat) (z c : Bool) : State := { s with a := BitVec.ofNat 8 acc, zf := z, cf := c }

/-- A + v + cin, an integer (41_alu8.md R150). -/
def sum (s : State) (v : Byte) (cin : Bool) : Nat := s.a.toNat + v.toNat + cin.toNat

/-- The effect of `add8` (41_alu8.md R150) on A, ZF and CF. -/
def added (s : State) (v : Byte) (cin : Bool) : State :=
  flagged s (sum s v cin % 0x100) (decide (sum s v cin % 0x100 = 0)) (decide (sum s v cin > 0xFF))

/-- The effect of `sub8` (41_alu8.md R151) on A, ZF and CF, the difference raised by 0x100 so that it is a natural number:
d mod 0x100 and d < 0 are read from it. -/
def subtracted (s : State) (v : Byte) (cin : Bool) : State :=
  flagged s ((s.a.toNat + 0x100 - v.toNat - cin.toNat) % 0x100)
    (decide ((s.a.toNat + 0x100 - v.toNat - cin.toNat) % 0x100 = 0)) (decide (s.a.toNat < v.toNat + cin.toNat))

/-- The effect of a bitwise operation: A, ZF from the result, CF cleared (41_alu8.md section 3). -/
def bitwise (s : State) (res : Byte) : State := { s with a := res, zf := decide (res.toNat = 0), cf := false }

/-- The effect of cp: the flags alone (41_alu8.md R177). -/
def compared (s : State) (v : Byte) : State :=
  { s with zf := decide (s.a = v), cf := decide (s.a.toNat < v.toNat) }

/-- `shift(op, v, cin)` (45_rotate_cb.md R264) in numbers: the result and the bit that goes to CF. -/
def shifted (op : ShiftOp) (v cin : Nat) : Nat × Bool :=
  match op with
  | .rlc => ((2 * v + v / 128) % 256, decide (v / 128 = 1))
  | .rrc => (v / 2 + 128 * (v % 2), decide (v % 2 = 1))
  | .rl => ((2 * v + cin) % 256, decide (v / 128 = 1))
  | .rr => (v / 2 + 128 * cin, decide (v % 2 = 1))
  | .sla => (2 * v % 256, decide (v / 128 = 1))
  | .sra => (v / 2 + 128 * (v / 128), decide (v % 2 = 1))
  | .swap => (v % 16 * 16 + v / 16, false)
  | .srl => (v / 2, decide (v % 2 = 1))

/-- Bit n of a byte as a number, 0 or 1. -/
def bitOf (v : Byte) (n : Fin 8) : Nat := v.toNat / 2 ^ n.val % 2

/-- The byte with bit n cleared. -/
def cleared (v : Byte) (n : Fin 8) : Byte := BitVec.ofNat 8 (v.toNat - bitOf v n * 2 ^ n.val)

/-- The byte with bit n set. -/
def raised (v : Byte) (n : Fin 8) : Byte := BitVec.ofNat 8 (v.toNat + (1 - bitOf v n) * 2 ^ n.val)

/-- `cond(cc)` (30_encoding.md R85). -/
def holds (s : State) (cc : Cond) : Bool :=
  match cc with
  | .nz => decide (s.zf = false)
  | .z => decide (s.zf = true)
  | .nc => decide (s.cf = false)
  | .c => decide (s.cf = true)

/-- The target of jr, "Written as the document writes it: if `off > 128` the target is `pc - 254 + off`, else
`pc + off + 2`" (43_control.md R210), modulo 0x10000. -/
def jrTo (pc : Word) (off : Byte) : Word :=
  if off.toNat > 128 then BitVec.ofNat 16 (pc.toNat + (0x10000 - 254) + off.toNat)
  else BitVec.ofNat 16 (pc.toNat + off.toNat + 2)

/-- `sp +16 sext_16(b)` in numbers (42_alu16.md R190, 00_scope.md R9). -/
def spPlus (sp : Word) (b : Byte) : Word :=
  BitVec.ofNat 16 (sp.toNat + (if b.toNat < 0x80 then b.toNat else b.toNat + 0xFF00))

/-- The carry of `addspe`, `bool((sp & 0xFF) + b > 0xFF)` (42_alu16.md R190). -/
def spCarry (sp : Word) (b : Byte) : Bool := decide (sp.toNat % 0x100 + b.toNat > 0xFF)

/-- The twelve instructions that fault (30_encoding.md R92), with their opcodes. -/
def faulting : List (Byte × Instr) :=
  [(0xD3, .unassignedD3), (0xDB, .unassignedDB), (0xDD, .unassignedDD), (0xE3, .unassignedE3), (0xE4, .unassignedE4),
   (0xEB, .unassignedEB), (0xEC, .unassignedEC), (0xED, .unassignedED), (0xF4, .unassignedF4), (0xFC, .unassignedFC),
   (0xFD, .unassignedFD), (0x27, .daa)]

/-- The opcode byte of an instruction, and the byte after it (0 where there is none). -/
def b0 (i : Instr) : Nat := ((encode i).getD 0 0).toNat
def b1 (i : Instr) : Nat := ((encode i).getD 1 0).toNat

/-- The conditional opcodes with field z = k of row Cx or Dx (jp cc: 2, call cc: 4, ret cc: 0). -/
def conditional (k n : Nat) : Bool := [0xC0 + k, 0xC8 + k, 0xD0 + k, 0xD8 + k].contains n

/-- An accumulator operation of any of its three forms, opcodes 0x80 to 0xBF and 0xC6 + 8*op (30_encoding.md R86). -/
def isAlu (n : Nat) : Bool := (decide (0x80 ≤ n) && decide (n < 0xC0)) || (decide (0xC0 ≤ n) && decide (n % 8 = 6))

/-- The instructions the table of 10_state.md R29 marks as writing ZF. -/
def writesZero (i : Instr) : Bool :=
  if b0 i = 0xCB then decide (b1 i < 0x80)
  else isAlu (b0 i) || (decide (b0 i < 0x40) && (decide (b0 i % 8 = 4) || decide (b0 i % 8 = 5)))
    || [0x07, 0x0F, 0x17, 0x1F, 0xE8, 0xF8, 0xF1].contains (b0 i)

/-- The instructions the table of 10_state.md R29 marks as writing CF. -/
def writesCarry (i : Instr) : Bool :=
  if b0 i = 0xCB then decide (b1 i < 0x40)
  else isAlu (b0 i) || [0x07, 0x0F, 0x17, 0x1F, 0x37, 0x3F, 0x09, 0x19, 0x29, 0x39, 0xE8, 0xF8, 0xF1].contains (b0 i)

/-- The flag readers of 10_state.md R30: adc, sbc, rla, rra, ccf and CB rl, rr; jr, jp, call, ret with a condition; push af. -/
def readsFlags (i : Instr) : Bool :=
  if b0 i = 0xCB then decide (0x10 ≤ b1 i) && decide (b1 i < 0x20)
  else (decide (0x88 ≤ b0 i) && decide (b0 i < 0x90)) || (decide (0x98 ≤ b0 i) && decide (b0 i < 0xA0))
    || [0xCE, 0xDE, 0x17, 0x1F, 0x3F, 0xF5, 0x20, 0x28, 0x30, 0x38].contains (b0 i)
    || conditional 0 (b0 i) || conditional 2 (b0 i) || conditional 4 (b0 i)

/-- The writers of SP (10_state.md R25): ld sp, inc sp, dec sp, add sp, push, pop, call, ret, reti, rst. -/
def writesSp (i : Instr) : Bool :=
  [0x31, 0xF9, 0x33, 0x3B, 0xE8, 0xC5, 0xD5, 0xE5, 0xF5, 0xC1, 0xD1, 0xE1, 0xF1, 0xCD, 0xC9, 0xD9].contains (b0 i)
    || conditional 0 (b0 i) || conditional 4 (b0 i) || (decide (0xC0 ≤ b0 i) && decide (b0 i % 8 = 7))

/-- The 8-bit register of a register code (30_encoding.md R82); code 6 names memory. -/
def regOf (n : Nat) : List R8 :=
  match n with
  | 0 => [.b]
  | 1 => [.c]
  | 2 => [.d]
  | 3 => [.e]
  | 4 => [.h]
  | 5 => [.l]
  | 7 => [.a]
  | _ => []

/-- The halves of the 16-bit register of a code ss (30_encoding.md R83). -/
def halvesOf (n : Nat) : List R8 :=
  match n with
  | 0 => [.b, .c]
  | 1 => [.d, .e]
  | 2 => [.h, .l]
  | _ => []

/-- The 8-bit registers an instruction may write, from the fields of its opcode (30_encoding.md R82, R87, R90). -/
def dests (i : Instr) : List R8 :=
  let n := b0 i
  let y := n / 8 % 8
  if n = 0xCB then (if b1 i / 64 = 1 then [] else regOf (b1 i % 8))
  else if n < 0x40 then
    match n % 8 with
    | 1 => if y % 2 = 1 then [.h, .l] else halvesOf (y / 2)
    | 2 => [[], [.a], [], [.a], [.h, .l], [.a, .h, .l], [.h, .l], [.a, .h, .l]].getD y []
    | 3 => halvesOf (y / 2)
    | 4 => regOf y
    | 5 => regOf y
    | 6 => regOf y
    | 7 => if y = 4 ∨ y = 6 ∨ y = 7 then [] else [.a]
    | _ => []
  else if n < 0x80 then regOf y
  else if n < 0xB8 then [.a]
  else if n < 0xC0 then []
  else if n % 8 = 6 then (if n = 0xFE then [] else [.a])
  else if n = 0xC1 ∨ n = 0xD1 ∨ n = 0xE1 then halvesOf (y / 2)
  else if n = 0xF1 ∨ n = 0xF0 ∨ n = 0xF2 ∨ n = 0xFA then [.a]
  else if n = 0xF8 then [.h, .l]
  else []

/-- The two addresses a push writes (40_loads.md R130). -/
def pushSlots (s : State) : List Word := [s.sp - 2, s.sp - 2 + 1]

/-- The addresses an instruction stores to, computed as its meaning computes them. -/
def stores (i : Instr) (s : State) : List Word :=
  match i with
  | .ldAtHlB | .ldAtHlC | .ldAtHlD | .ldAtHlE | .ldAtHlH | .ldAtHlL | .ldAtHlA
    => [s.hl]
  | .ldAtHlN8 _ => [s.hl]
  | .ldAtHlIncA | .ldAtHlDecA | .incAtHl | .decAtHl => [s.hl]
  | .ldAtBcA => [s.bc]
  | .ldAtDeA => [s.de]
  | .ldAtN16A n => [n]
  | .ldhAtN8A n => [pageAddr n]
  | .ldAtCA => [pageAddr s.c]
  | .ldAtN16Sp n => [n, n + 1]
  | .rlcAtHl | .rrcAtHl | .rlAtHl | .rrAtHl | .slaAtHl | .sraAtHl | .swapAtHl | .srlAtHl
    => [s.hl]
  | .res0AtHl | .res1AtHl | .res2AtHl | .res3AtHl | .res4AtHl | .res5AtHl | .res6AtHl | .res7AtHl
    => [s.hl]
  | .set0AtHl | .set1AtHl | .set2AtHl | .set3AtHl | .set4AtHl | .set5AtHl | .set6AtHl | .set7AtHl
    => [s.hl]
  | .pushBc | .pushDe | .pushHl | .pushAf => pushSlots s
  | .rst00 | .rst08 | .rst10 | .rst18 | .rst20 | .rst28 | .rst30 | .rst38 => pushSlots s
  | .callN16 _ => pushSlots s
  | .callNzN16 _ => if s.cond .nz then pushSlots s else []
  | .callZN16 _ => if s.cond .z then pushSlots s else []
  | .callNcN16 _ => if s.cond .nc then pushSlots s else []
  | .callCN16 _ => if s.cond .c then pushSlots s else []
  | _ => []

/-- The invariant of the core: memory is in its canonical form, and between steps the dispatch engine is in Primary-Fetch
(10_state.md R33). -/
def Inv (s : State) : Prop := s.mem.wf = true ∧ s.dispatch = .primaryFetch

end Sys2Proof.Stmt

open Sys2Proof Sys2Proof.Machine Sys2Proof.Stmt

/-- For one word of each family, written byte by byte from the encodings of its rule, decode gives the instruction the maps
of R90 and R91 name, with its operand bytes in place and the rest of the list left. Cites: 30_encoding.md R90, 30_encoding.md
R91. -/
def Obligations.SampleWordsDecode : Prop :=
  decode [0x41, 0x00] = .ok (.ldBC, [0x00]) ∧ decode [0x3E, 0x7F] = .ok (.ldAN8 0x7F, []) ∧
  decode [0xEA, 0x34, 0x12] = .ok (.ldAtN16A 0x1234, []) ∧ decode [0x9E] = .ok (.sbcAAtHl, []) ∧
  decode [0x39] = .ok (.addHlSp, []) ∧ decode [0xDC, 0x34, 0x12] = .ok (.callCN16 0x1234, []) ∧
  decode [0x10, 0x5A] = .ok (.stop 0x5A, []) ∧ decode [0xCB, 0x7E] = .ok (.bit7AtHl, []) ∧
  decode [0xCB, 0xCB] = .ok (.set1E, []) ∧ decode [0xD3] = .ok (.unassignedD3, [])

/-- For every instruction with every operand value, and every list of bytes after it, decoding the encoded bytes followed by
that list gives back the instruction and that list. Cites: 30_encoding.md R80, 30_encoding.md R81, 30_encoding.md R90,
30_encoding.md R91. -/
def Obligations.DecodeOfEncodeIsTheInstruction : Prop :=
  ∀ (i : Instr) (rest : List Byte), i.wellFormed = true → decode (encode i ++ rest) = .ok (i, rest)

/-- Whenever a list of bytes decodes to an instruction with a rest, encoding that instruction and appending the rest gives
back the list. Cites: 30_encoding.md R80, 30_encoding.md R97. -/
def Obligations.EncodeOfDecodeIsTheBytes : Prop :=
  ∀ (bs rest : List Byte) (i : Instr), decode bs = .ok (i, rest) → encode i ++ rest = bs

/-- Every list of at least three bytes decodes; what is left is the list less as many bytes as the first byte alone fixes,
which is 1, 2 or 3, and 2 for 0xCB. A shorter list is rejected by name exactly when it has fewer bytes than its first byte
asks for. (That a list can be too short is the model's choice, log 10, DESIGN CHOICE: R97 has every byte sequence decode, so
the clauses noBytes and tooFewBytes are no rule of the spec.) Cites: 30_encoding.md R80, 30_encoding.md R97. -/
def Obligations.DecodingIsTotal : Prop :=
  (∀ b : Byte, lengthOf b = 1 ∨ lengthOf b = 2 ∨ lengthOf b = 3) ∧ lengthOf 0xCB = 2 ∧
  (∀ (x : Byte) (rest : List Byte), lengthOf x ≤ rest.length + 1 →
    ∃ i, decode (x :: rest) = .ok (i, (x :: rest).drop (lengthOf x))) ∧
  (∀ (x : Byte) (rest : List Byte), rest.length + 1 < lengthOf x →
    decode (x :: rest) = .error (.tooFewBytes (lengthOf x))) ∧
  decode [] = .error .noBytes

/-- For every operation, bit number and register code, the byte 64*x + 8*y + z after 0xCB decodes to the rotate or shift (x =
0), bit (1), res (2) or set (3) of that register, or of [hl] for z = 6. (30_encoding.md marks the layout as general
knowledge.) Cites: 30_encoding.md R87. -/
def Obligations.SecondaryFieldsSelectInstruction : Prop :=
  ∀ (r : R8) (o : ShiftOp) (n : Fin 8),
    decode [0xCB, op (8 * o.code + r.code)] = .ok (.ofShiftR8 o r, []) ∧
    decode [0xCB, op (8 * o.code + 6)] = .ok (.ofShiftAtHl o, []) ∧
    decode [0xCB, op (64 + 8 * n.val + r.code)] = .ok (.ofBitR8 n r, []) ∧
    decode [0xCB, op (64 + 8 * n.val + 6)] = .ok (.ofBitAtHl n, []) ∧
    decode [0xCB, op (128 + 8 * n.val + r.code)] = .ok (.ofResR8 n r, []) ∧
    decode [0xCB, op (128 + 8 * n.val + 6)] = .ok (.ofResAtHl n, []) ∧
    decode [0xCB, op (192 + 8 * n.val + r.code)] = .ok (.ofSetR8 n r, []) ∧
    decode [0xCB, op (192 + 8 * n.val + 6)] = .ok (.ofSetAtHl n, [])

/-- For each of the twelve opcodes of R92 the opcode byte alone is the encoding, and in every state execution raises
UnimplementedOpcode with that opcode, prefixed false, and the pc of the state. The outcome carries no next state, so nothing
is written. (That these twelve fault, and how, is the spec's decisions D10, D11 and D12; the model's reading of them is log
9, DEDUCED.) Cites: 41_alu8.md R180, 44_system.md R245, 60_exceptions.md R301. -/
def Obligations.TwelveOpcodesFault : Prop :=
  ∀ p ∈ faulting, coded [p.1] p.2 ∧ ∀ s : State, exec p.2 s = .fault (.unimplementedOpcode p.1 false s.pc)

/-- For every instruction: it faults in some state only if it is one of the twelve of R92; and every instruction that is none
of the twelve answers a next state in every state (all 499 other constructors). (The list of R92 is the spec's decisions D10
and D11; the model's reading is log 9, DEDUCED.) Cites: 30_encoding.md R92, 60_exceptions.md R302. -/
def Obligations.OnlyTheTwelveFault : Prop :=
  ∀ (i : Instr) (s : State), i ∉ faulting.map Prod.snd → ∃ t, exec i s = .next t

/-- For every instruction and state: the instruction is one of the twelve and ends in the fault record with its own opcode
and pc, or it answers a next state whose outcome is Halted exactly for halt, Stopped exactly for stop, and Ok for every other
instruction; for halt and stop the next state has pc and budget as R300 gives them and is otherwise unchanged. (The tag is
the spec's decision D8, D9, D12, D38.) Cites: 60_exceptions.md R300. -/
def Obligations.OutcomesOfInstructions : Prop :=
  ∀ (i : Instr) (s : State),
    (∃ p ∈ faulting, i = p.2 ∧ exec i s = .fault (.unimplementedOpcode p.1 false s.pc)) ∨
    (i ∉ faulting.map Prod.snd ∧ ∃ t, exec i s = .next t ∧ (t.outcome = .halted ↔ i = .halt) ∧
      (t.outcome = .stopped ↔ ∃ x, i = .stop x) ∧ (t.outcome = .halted → t = ends s .halted (s.pc + 1) 1) ∧
      (t.outcome = .stopped → t = ends s .stopped (s.pc + 2) 1))

/-- If the bytes that reads at pc, pc + 1 and pc + 2 return, one after the other, decode to an instruction i (with some
rest), then step at s is exec of i at s after exactly the reads of the instruction's own bytes, in increasing address, the
record of accesses holding these reads alone, and the dispatch state CB-Fetch if the first byte is the prefix 0xCB and
Primary-Fetch otherwise. (The order and the wrap of the fetches are the spec's decisions D21 and D20, the pc argument D38;
the record of accesses is the model's own, log 5, DESIGN CHOICE, and the dispatch field log 7, DEDUCED; what a collaborator's
accessors return is a free value, log 6, DESIGN CHOICE.) Cites: 30_encoding.md R94, 00_scope.md R12, 20_memory.md R59. -/
def Obligations.StepRunsTheDecodedInstruction : Prop :=
  ∀ (s : State) (i : Instr) (rest : List Byte), decode (nextBytes s) = .ok (i, rest) →
    step s = exec i { saw { s with bus := [] }
        ((List.range (encode i).length).map (fun k => .read (s.pc + BitVec.ofNat 16 k))) with
      dispatch := if s.peek s.pc = 0xCB then .cbFetch else .primaryFetch }

/-- From every state that meets the invariant, if step answers a next state, that state meets it: memory is in its canonical
form (addresses of the 65536-cell space, rising, none holding the unlisted byte) and the dispatch engine is in Primary-Fetch.
(The dispatch field is log 7, DEDUCED; the canonical form is the model's own, log 2, DESIGN CHOICE.) Cites: 20_memory.md R50,
10_state.md R33. -/
def Obligations.StepKeepsInvariant : Prop :=
  ∀ s t : State, Inv s → step s = .next t → Inv t

/-- The invariant that every step keeps holds at State.reset: nothing is listed in memory and the dispatch state is
Primary-Fetch. (That State.reset lists nothing in memory is the model's choice, log 2, DESIGN CHOICE: R38 and R330 leave MEM0
a parameter; the dispatch field is log 7, DEDUCED.) Cites: 10_state.md R38, 70_reset_and_hazards.md R330. -/
def Obligations.ResetMeetsInvariant : Prop :=
  Inv State.reset

/-- For every RESET_STATE, BUS, MEM0 and RET_CC_TAKEN_COST: after creation every register, ZF, CF and IME holds the value of
RESET_STATE, the accessors are those of BUS, memory is MEM0, the dispatch state is Primary-Fetch and the parameter is kept.
(The parameters are the spec's decisions D5, D23 and D24; how BUS is represented is log 6, DESIGN CHOICE, that the parameter
is kept in the state log 3, DESIGN CHOICE.) Cites: 70_reset_and_hazards.md R330, 10_state.md R38, 00_scope.md R7. -/
def Obligations.CreationTakesItsParameters : Prop :=
  ∀ (g : Config) (r : ResetState) (bus : Bus) (m : Memory), let s := State.create g r bus m
    s.a = r.a ∧ s.b = r.b ∧ s.c = r.c ∧ s.d = r.d ∧ s.e = r.e ∧ s.h = r.h ∧ s.l = r.l ∧ s.sp = r.sp ∧ s.pc = r.pc ∧
    s.zf = r.zf ∧ s.cf = r.cf ∧ s.ime = r.ime ∧ s.mem = m ∧ s.accessors = bus ∧ s.dispatch = .primaryFetch ∧
    s.config = g

/-- read_word(addr) is the byte at addr plus 256 times the byte at addr +16 1, read in that order; write_word writes the low
byte at addr and then the high byte at addr +16 1; at 0xFFFF the second byte is at 0x0000. (The order and the wrap are the
spec's decisions D20, D21.) Cites: 20_memory.md R52, 20_memory.md R53. -/
def Obligations.WordAccessesAreTwoBytes : Prop :=
  (∀ (s : State) (addr : Word), s.readWord addr =
    (wordAt s addr, saw s [.read addr, .read (addr + 1)])) ∧
  (∀ (s : State) (addr v : Word), s.writeWord addr v = storedWord s addr v) ∧ (0xFFFF#16 + 1 = 0x0000#16)

/-- R8[r] reads the register of its name and R8[r] <- v writes that register alone; a pair is high*256 + low, and writing it
writes its two halves alone; for ss = 3 SP itself is read and written. Cites: 10_state.md R21, 10_state.md R23,
30_encoding.md R82, 30_encoding.md R83. -/
def Obligations.RegisterCodesNameTheRegisters : Prop :=
  ∀ (s : State) (v : Byte) (w : Word) (q : Pair) (ss : R16),
    (s.getR8 .b = s.b ∧ s.getR8 .c = s.c ∧ s.getR8 .d = s.d ∧ s.getR8 .e = s.e ∧ s.getR8 .h = s.h ∧ s.getR8 .l = s.l ∧
      s.getR8 .a = s.a) ∧
    (s.setR8 .b v = { s with b := v } ∧ s.setR8 .c v = { s with c := v } ∧ s.setR8 .d v = { s with d := v } ∧
      s.setR8 .e v = { s with e := v } ∧ s.setR8 .h v = { s with h := v } ∧ s.setR8 .l v = { s with l := v } ∧
      s.setR8 .a v = { s with a := v }) ∧
    s.getPair q = pair s q ∧ s.setPair q w = putPair s q w ∧ s.getR16 ss = reg16 s ss ∧ s.setR16 ss w = putReg16 s ss w

/-- Injection with IME set: SP drops by 2 modulo 0x10000, the pc is written to BUS at the new SP, low byte first, the pc is
the handler address, IME is 0, and nothing else changes; with IME clear nothing is injected. With the default BUS and
canonical memory the two bytes of the pc stand at the new SP, every other byte reads as before, and reti executed in the
handler gives a next state whose pc and SP are those before the entry, with IME 1. (The caller's entry is the spec's decision
D27, read as log 13 says, DEDUCED; reti's IME is D7; reading the pushed pc back rests on the default BUS, log 6, DESIGN
CHOICE.) Cites: 60_exceptions.md R305, 60_exceptions.md R308, 43_control.md R220. -/
def Obligations.CallerEntersAndRetiReturns : Prop :=
  ∀ (s : State) (handler : Word),
    (s.ime = false → s.injectInterrupt handler = none) ∧
    (s.ime = true → ∃ u, s.injectInterrupt handler = some u ∧
      u = { callerDid s [.write (s.sp - 2) (lo s.pc), .write (s.sp - 2 + 1) (hi s.pc)] with
        sp := s.sp - 2, pc := handler, ime := false } ∧
      (s.accessors = .plainRam → s.mem.wf = true →
        u.peek (s.sp - 2) = lo s.pc ∧ u.peek (s.sp - 2 + 1) = hi s.pc ∧
        (∀ a, a ∉ pushSlots s → u.peek a = s.peek a) ∧
        ∃ t, exec .reti u = .next t ∧ t.pc = s.pc ∧ t.sp = s.sp ∧ t.ime = true))

/-- The mutators of SP, PC, ZF, CF, IME and of the budget write that field alone; the memory primitives make one access of
BUS, read or write, which the record of the core does not hold, and write no other field; with the default BUS a byte written
is read back in a canonical memory and every other byte reads as before; a collaborator's own action changes its state alone,
and nothing with the default BUS. (The accessor of IME is the spec's decision D7, the collaborator's action D24; the budget
mutator is the model's own, log 4, DESIGN CHOICE; the read-back rests on the default BUS, log 6, DESIGN CHOICE.) Cites:
10_state.md R36, 60_exceptions.md R313, 20_memory.md R62. -/
def Obligations.AccessorsWriteTheNamedItem : Prop :=
  ∀ (s : State) (w : Word) (v : Bool) (n : Int) (addr : Word) (x : Byte),
    s.pokeSp w = { s with sp := w } ∧ s.pokePc w = { s with pc := w } ∧ s.pokeZf v = { s with zf := v } ∧
    s.pokeCf v = { s with cf := v } ∧ s.pokeIme v = { s with ime := v } ∧ s.pokeCycles n = { s with cycles := n } ∧
    s.inspectByte addr = (s.peek addr, callerDid s [.read addr]) ∧ s.pokeByte addr x = callerDid s [.write addr x] ∧
    (s.accessors = .plainRam → (s.mem.wf = true → (s.pokeByte addr x).peek addr = x) ∧
      (∀ a, a ≠ addr → (s.pokeByte addr x).peek a = s.peek a) ∧ ∀ k, s.collaboratorActs k = s) ∧
    ∀ j k, s.accessors = .collaborator j → s.collaboratorActs k = { s with accessors := .collaborator k }

/-- For every destination and source register code: the encodings of R110 to R112, and in every state the next state: the
destination holds the source register, the immediate, or the byte at HL (formed before the write); flags unchanged; pc past
the instruction; costs 1, 2 and 2. All 63 constructors of the three rules. Cites: R110, R111, R112. -/
def Obligations.LdRegisterForms : Prop :=
  ∀ (dst r : R8) (n : Byte) (s : State),
    coded [op (0x40 + 8 * dst.code + r.code)] (.ofLdR8R8 dst r) ∧
    exec (.ofLdR8R8 dst r) s = .next (ok (s.setR8 dst (s.getR8 r)) (s.pc + 1) 1) ∧
    coded [op (8 * dst.code + 6), n] (.ofLdR8N8 dst n) ∧
    exec (.ofLdR8N8 dst n) s = .next (ok (s.setR8 dst n) (s.pc + 2) 2) ∧
    coded [op (0x40 + 8 * dst.code + 6)] (.ofLdR8AtHl dst) ∧
    exec (.ofLdR8AtHl dst) s =
      .next (ok ((saw s [.read (hl s)]).setR8 dst (s.peek (hl s))) (s.pc + 1) 2)

/-- For every source register code and immediate: the encodings, and in every state the next state: one byte written at HL,
no register or flag changed but pc and the budget. Cites: R113, R114. -/
def Obligations.LdMemoryForms : Prop :=
  ∀ (r : R8) (n : Byte) (s : State),
    coded [op (0x70 + r.code)] (.ofLdAtHlR8 r) ∧
    exec (.ofLdAtHlR8 r) s = .next (ok (stored s (hl s) (s.getR8 r)) (s.pc + 1) 2) ∧
    coded [0x36, n] (.ldAtHlN8 n) ∧ exec (.ldAtHlN8 n) s = .next (ok (stored s (hl s) n) (s.pc + 2) 3)

/-- The encodings, and in every state the next state: A holds the byte at BC or DE, or that byte is written with A; cost 2.
(The cost of ld a, [rr] is the spec's decision D6.) Cites: 40_loads.md R115, 40_loads.md R116. -/
def Obligations.LdAccumulatorPointerForms : Prop :=
  ∀ s : State,
    (coded [0x0A] .ldAAtBc ∧ exec .ldAAtBc s =
      .next (ok { saw s [.read (word s.b s.c)] with a := s.peek (word s.b s.c) } (s.pc + 1) 2)) ∧
    (coded [0x1A] .ldAAtDe ∧ exec .ldAAtDe s =
      .next (ok { saw s [.read (word s.d s.e)] with a := s.peek (word s.d s.e) } (s.pc + 1) 2)) ∧
    (coded [0x02] .ldAtBcA ∧ exec .ldAtBcA s = .next (ok (stored s (word s.b s.c) s.a) (s.pc + 1) 2)) ∧
    (coded [0x12] .ldAtDeA ∧ exec .ldAtDeA s = .next (ok (stored s (word s.d s.e) s.a) (s.pc + 1) 2))

/-- The encodings, and in every state the next state: A loaded from or stored to n16, 0xFF00 + n8 or 0xFF00 + C, with the
lengths and costs of the rules. (The ldh and [c] forms are the spec's decision D29.) Cites: 40_loads.md R117, 40_loads.md
R118, 40_loads.md R119, 40_loads.md R120, 40_loads.md R121, 40_loads.md R122. -/
def Obligations.LdAccumulatorAddressForms : Prop :=
  ∀ (n : Word) (k : Byte) (s : State),
    let page := fun x : Byte => BitVec.ofNat 16 (0xFF00 + x.toNat)
    (coded [0xFA, lo n, hi n] (.ldAAtN16 n) ∧
      exec (.ldAAtN16 n) s = .next (ok { saw s [.read n] with a := s.peek n } (s.pc + 3) 4)) ∧
    (coded [0xEA, lo n, hi n] (.ldAtN16A n) ∧ exec (.ldAtN16A n) s = .next (ok (stored s n s.a) (s.pc + 3) 4)) ∧
    (coded [0xF0, k] (.ldhAAtN8 k) ∧
      exec (.ldhAAtN8 k) s = .next (ok { saw s [.read (page k)] with a := s.peek (page k) } (s.pc + 2) 3)) ∧
    (coded [0xE0, k] (.ldhAtN8A k) ∧ exec (.ldhAtN8A k) s = .next (ok (stored s (page k) s.a) (s.pc + 2) 3)) ∧
    (coded [0xF2] .ldAAtC ∧
      exec .ldAAtC s = .next (ok { saw s [.read (page s.c)] with a := s.peek (page s.c) } (s.pc + 1) 2)) ∧
    (coded [0xE2] .ldAtCA ∧ exec .ldAtCA s = .next (ok (stored s (page s.c) s.a) (s.pc + 1) 2))

/-- The encodings, and in every state the next state: the access at the old HL, then HL one higher or lower modulo 0x10000
across both halves; no flag written; cost 2. (These forms are the spec's decision D29.) Cites: 40_loads.md R123, 40_loads.md
R124, 40_loads.md R125, 40_loads.md R126. -/
def Obligations.LdHlStepForms : Prop :=
  ∀ s : State,
    let up : Word := BitVec.ofNat 16 ((hl s).toNat + 1)
    let down : Word := BitVec.ofNat 16 ((hl s).toNat + 0xFFFF)
    (coded [0x22] .ldAtHlIncA ∧ exec .ldAtHlIncA s = .next (ok (putPair (stored s (hl s) s.a) .hl up) (s.pc + 1) 2)) ∧
    (coded [0x32] .ldAtHlDecA ∧ exec .ldAtHlDecA s = .next (ok (putPair (stored s (hl s) s.a) .hl down) (s.pc + 1) 2)) ∧
    (coded [0x2A] .ldAAtHlInc ∧ exec .ldAAtHlInc s =
      .next (ok (putPair { saw s [.read (hl s)] with a := s.peek (hl s) } .hl up) (s.pc + 1) 2)) ∧
    (coded [0x3A] .ldAAtHlDec ∧ exec .ldAAtHlDec s =
      .next (ok (putPair { saw s [.read (hl s)] with a := s.peek (hl s) } .hl down) (s.pc + 1) 2))

/-- The encodings with the low immediate byte first, and in every state the next state: the 16-bit register holds the
immediate; SP is stored little-endian at n16 and n16 +16 1; SP holds HL. Costs 3, 5, 2. (Ld sp, hl is the spec's decision
D2.) Cites: 40_loads.md R127, 40_loads.md R128, 40_loads.md R129. -/
def Obligations.LdSixteenBitForms : Prop :=
  ∀ (ss : R16) (n : Word) (s : State),
    coded [op (16 * ss.code + 1), lo n, hi n] (.ofLdR16N16 ss n) ∧
    exec (.ofLdR16N16 ss n) s = .next (ok (putReg16 s ss n) (s.pc + 3) 3) ∧
    coded [0x08, lo n, hi n] (.ldAtN16Sp n) ∧
    exec (.ldAtN16Sp n) s = .next (ok (storedWord s n s.sp) (s.pc + 3) 5) ∧
    coded [0xF9] .ldSpHl ∧ exec .ldSpHl s = .next (ok { s with sp := hl s } (s.pc + 1) 2)

/-- The encodings, and in every state the next state: SP drops by 2 modulo 0x10000 and the pair, or A and the flag byte
ZF*128 + CF*16, stands at the new SP, low byte at the lower address and written first; cost 4. (The write order is the spec's
decision D21, the flag byte D13.) Cites: 40_loads.md R130, 40_loads.md R132, 40_loads.md R133. -/
def Obligations.PushForms : Prop :=
  ∀ (q : Pair) (s : State),
    coded [op (0xC5 + 16 * q.code)] (.ofPushPair q) ∧
    exec (.ofPushPair q) s = .next (ok (pushed s (pair s q)) (s.pc + 1) 4) ∧
    coded [0xF5] .pushAf ∧
    exec .pushAf s = .next (ok (pushed s (word s.a (op (s.zf.toNat * 128 + s.cf.toNat * 16)))) (s.pc + 1) 4)

/-- The encodings, and in every state the next state: the word at SP is read low byte first, SP rises by 2 modulo 0x10000,
and the pair holds the word; pop af writes A from the high byte, ZF from bit 7 and CF from bit 4 of the low byte and discards
the rest; cost 3. (R134 without its round-trip corner case, which PushThenPopRestores states.) (The flag byte is the spec's
decision D13.) Cites: 40_loads.md R131, 40_loads.md R135. -/
def Obligations.PopForms : Prop :=
  ∀ (q : Pair) (s : State),
    coded [op (0xC1 + 16 * q.code)] (.ofPopPair q) ∧
    exec (.ofPopPair q) s = .next (ok (putPair (popped s) q (popValue s)) (s.pc + 1) 3) ∧
    coded [0xF1] .popAf ∧
    exec .popAf s = .next (ok { popped s with
      a := (saw s [.read s.sp]).peek (s.sp + 1), zf := decide (bitOf (s.peek s.sp) 7 = 1), cf := decide (bitOf (s.peek s.sp) 4 = 1) }
      (s.pc + 1) 3)

/-- With the default BUS, in every state with canonical memory and for every SP, the wraparound ones included: a push of a
pair followed by the pop of any pair completes with the pushed value in that pair and the old SP; push af followed by pop af
gives back A, ZF and CF; the flags are otherwise unchanged. (R134 says it given the default BUS, a parameter: log 6, DESIGN
CHOICE; the AF byte is the spec's decision D13.) Cites: 40_loads.md R134, 40_loads.md R135, 95_test_vectors.md section 1.5.
-/
def Obligations.PushThenPopRestores : Prop :=
  ∀ (q q2 : Pair) (s : State), s.accessors = .plainRam → s.mem.wf = true →
    (∃ t u, exec (.ofPushPair q) s = .next t ∧ exec (.ofPopPair q2) t = .next u ∧
      pair u q2 = pair s q ∧ u.sp = s.sp ∧ u.a = s.a ∧ u.zf = s.zf ∧ u.cf = s.cf) ∧
    (∃ t u, exec .pushAf s = .next t ∧ exec .popAf t = .next u ∧
      u.a = s.a ∧ u.zf = s.zf ∧ u.cf = s.cf ∧ u.sp = s.sp)

/-- The encodings, and in every state the next state: the operand one higher or lower modulo 0x100 (0 wraps to 0xFF), ZF set
exactly when the result is 0, CF unchanged; for [hl] one read, then one write; costs 1 and 3. Cites: R152, R153, R154, R155.
-/
def Obligations.IncDecForms : Prop :=
  ∀ (r : R8) (s : State),
    let up := fun x : Byte => op ((x.toNat + 1) % 0x100)
    let down := fun x : Byte => op ((x.toNat + 0xFF) % 0x100)
    (coded [op (8 * r.code + 4)] (.ofIncR8 r) ∧ exec (.ofIncR8 r) s =
      .next (ok { s.setR8 r (up (s.getR8 r)) with zf := decide (s.getR8 r = 0xFF) } (s.pc + 1) 1)) ∧
    (coded [op (8 * r.code + 5)] (.ofDecR8 r) ∧ exec (.ofDecR8 r) s =
      .next (ok { s.setR8 r (down (s.getR8 r)) with zf := decide (s.getR8 r = 0x01) } (s.pc + 1) 1)) ∧
    (coded [0x34] .incAtHl ∧ exec .incAtHl s =
      .next (ok { stored (saw s [.read (hl s)]) (hl s) (up (s.peek (hl s))) with zf := decide (s.peek (hl s) = 0xFF) }
        (s.pc + 1) 3)) ∧
    (coded [0x35] .decAtHl ∧ exec .decAtHl s =
      .next (ok { stored (saw s [.read (hl s)]) (hl s) (down (s.peek (hl s))) with zf := decide (s.peek (hl s) = 0x01) }
        (s.pc + 1) 3))

/-- The encodings, and in every state the next state: A is the sum (with the carry for adc) modulo 0x100, ZF set exactly when
that is 0, CF set exactly when the exact sum is over 0xFF; costs 1, 2, 2. Cites: R150, R156, R157, R158, R159, R160, R161. -/
def Obligations.AddForms : Prop :=
  ∀ (r : R8) (n : Byte) (s : State),
    (coded [op (0x80 + 8 * 0 + r.code)] (.ofAluR8 .add r) ∧
      exec (.ofAluR8 .add r) s = .next (ok (added s (s.getR8 r) false) (s.pc + 1) 1)) ∧
    (coded [op (0x80 + 8 * 0 + 6)] (.ofAluAtHl .add) ∧
      exec (.ofAluAtHl .add) s = .next (ok (saw (added s (s.peek (hl s)) false) [.read (hl s)]) (s.pc + 1) 2)) ∧
    (coded [op (0xC6 + 8 * 0), n] (.ofAluN8 .add n) ∧
      exec (.ofAluN8 .add n) s = .next (ok (added s n false) (s.pc + 2) 2)) ∧
    (coded [op (0x80 + 8 * 1 + r.code)] (.ofAluR8 .adc r) ∧
      exec (.ofAluR8 .adc r) s = .next (ok (added s (s.getR8 r) s.cf) (s.pc + 1) 1)) ∧
    (coded [op (0x80 + 8 * 1 + 6)] (.ofAluAtHl .adc) ∧
      exec (.ofAluAtHl .adc) s = .next (ok (saw (added s (s.peek (hl s)) s.cf) [.read (hl s)]) (s.pc + 1) 2)) ∧
    (coded [op (0xC6 + 8 * 1), n] (.ofAluN8 .adc n) ∧
      exec (.ofAluN8 .adc n) s = .next (ok (added s n s.cf) (s.pc + 2) 2))

/-- The encodings, and in every state the next state: A is the difference (less the carry for sbc) modulo 0x100, ZF set
exactly when that byte is 0 (also for a difference of -0x100), CF the borrow; costs 1, 2, 2. (ZF at a difference of -0x100 is
the spec's decision D19.) Cites: 41_alu8.md R151, 41_alu8.md R162, 41_alu8.md R163, 41_alu8.md R164, 41_alu8.md R165,
41_alu8.md R166, 41_alu8.md R167. -/
def Obligations.SubForms : Prop :=
  ∀ (r : R8) (n : Byte) (s : State),
    (coded [op (0x80 + 8 * 2 + r.code)] (.ofAluR8 .sub r) ∧
      exec (.ofAluR8 .sub r) s = .next (ok (subtracted s (s.getR8 r) false) (s.pc + 1) 1)) ∧
    (coded [op (0x80 + 8 * 2 + 6)] (.ofAluAtHl .sub) ∧
      exec (.ofAluAtHl .sub) s = .next (ok (saw (subtracted s (s.peek (hl s)) false) [.read (hl s)]) (s.pc + 1) 2)) ∧
    (coded [op (0xC6 + 8 * 2), n] (.ofAluN8 .sub n) ∧
      exec (.ofAluN8 .sub n) s = .next (ok (subtracted s n false) (s.pc + 2) 2)) ∧
    (coded [op (0x80 + 8 * 3 + r.code)] (.ofAluR8 .sbc r) ∧
      exec (.ofAluR8 .sbc r) s = .next (ok (subtracted s (s.getR8 r) s.cf) (s.pc + 1) 1)) ∧
    (coded [op (0x80 + 8 * 3 + 6)] (.ofAluAtHl .sbc) ∧
      exec (.ofAluAtHl .sbc) s = .next (ok (saw (subtracted s (s.peek (hl s)) s.cf) [.read (hl s)]) (s.pc + 1) 2)) ∧
    (coded [op (0xC6 + 8 * 3), n] (.ofAluN8 .sbc n) ∧
      exec (.ofAluN8 .sbc n) s = .next (ok (subtracted s n s.cf) (s.pc + 2) 2))

/-- The encodings, and in every state the next state: A is the bitwise result, ZF set exactly when it is 0, CF cleared
whatever it was; costs 1, 2, 2. Cites: R168, R169, R170, R171, R172, R173, R174, R175, R176. -/
def Obligations.LogicForms : Prop :=
  ∀ (r : R8) (n : Byte) (s : State),
    (coded [op (0x80 + 8 * 4 + r.code)] (.ofAluR8 .and r) ∧
      exec (.ofAluR8 .and r) s = .next (ok (bitwise s (s.a &&& (s.getR8 r))) (s.pc + 1) 1)) ∧
    (coded [op (0x80 + 8 * 4 + 6)] (.ofAluAtHl .and) ∧
      exec (.ofAluAtHl .and) s = .next (ok (saw (bitwise s (s.a &&& (s.peek (hl s)))) [.read (hl s)]) (s.pc + 1) 2)) ∧
    (coded [op (0xC6 + 8 * 4), n] (.ofAluN8 .and n) ∧
      exec (.ofAluN8 .and n) s = .next (ok (bitwise s (s.a &&& n)) (s.pc + 2) 2)) ∧
    (coded [op (0x80 + 8 * 5 + r.code)] (.ofAluR8 .xor r) ∧
      exec (.ofAluR8 .xor r) s = .next (ok (bitwise s (s.a ^^^ (s.getR8 r))) (s.pc + 1) 1)) ∧
    (coded [op (0x80 + 8 * 5 + 6)] (.ofAluAtHl .xor) ∧
      exec (.ofAluAtHl .xor) s = .next (ok (saw (bitwise s (s.a ^^^ (s.peek (hl s)))) [.read (hl s)]) (s.pc + 1) 2)) ∧
    (coded [op (0xC6 + 8 * 5), n] (.ofAluN8 .xor n) ∧
      exec (.ofAluN8 .xor n) s = .next (ok (bitwise s (s.a ^^^ n)) (s.pc + 2) 2)) ∧
    (coded [op (0x80 + 8 * 6 + r.code)] (.ofAluR8 .or r) ∧
      exec (.ofAluR8 .or r) s = .next (ok (bitwise s (s.a ||| (s.getR8 r))) (s.pc + 1) 1)) ∧
    (coded [op (0x80 + 8 * 6 + 6)] (.ofAluAtHl .or) ∧
      exec (.ofAluAtHl .or) s = .next (ok (saw (bitwise s (s.a ||| (s.peek (hl s)))) [.read (hl s)]) (s.pc + 1) 2)) ∧
    (coded [op (0xC6 + 8 * 6), n] (.ofAluN8 .or n) ∧
      exec (.ofAluN8 .or n) s = .next (ok (bitwise s (s.a ||| n)) (s.pc + 2) 2))

/-- The encodings, and in every state the next state: A unchanged, ZF set exactly when A equals the operand, CF set exactly
when A is less; costs 1, 2, 2. Cites: R177, R178, R179. -/
def Obligations.CompareForms : Prop :=
  ∀ (r : R8) (n : Byte) (s : State),
    (coded [op (0x80 + 8 * 7 + r.code)] (.ofAluR8 .cp r) ∧
      exec (.ofAluR8 .cp r) s = .next (ok (compared s (s.getR8 r)) (s.pc + 1) 1)) ∧
    (coded [op (0x80 + 8 * 7 + 6)] (.ofAluAtHl .cp) ∧
      exec (.ofAluAtHl .cp) s = .next (ok (saw (compared s (s.peek (hl s))) [.read (hl s)]) (s.pc + 1) 2)) ∧
    (coded [op (0xC6 + 8 * 7), n] (.ofAluN8 .cp n) ∧
      exec (.ofAluN8 .cp n) s = .next (ok (compared s n) (s.pc + 2) 2))

/-- The encodings, and in every state the next state: cpl makes A 0xFF - A and writes no flag; scf sets CF; ccf complements
CF; ZF unchanged by all three; cost 1. (These are the spec's decision D15.) Cites: 41_alu8.md R181, 41_alu8.md R182,
41_alu8.md R183. -/
def Obligations.ComplementAndCarryForms : Prop :=
  ∀ s : State,
    (coded [0x2F] .cpl ∧ exec .cpl s = .next (ok { s with a := op (0xFF - s.a.toNat) } (s.pc + 1) 1)) ∧
    (coded [0x37] .scf ∧ exec .scf s = .next (ok { s with cf := true } (s.pc + 1) 1)) ∧
    (coded [0x3F] .ccf ∧ exec .ccf s = .next (ok { s with cf := decide (s.cf = false) } (s.pc + 1) 1))

/-- The encodings, and in every state the next state: the 16-bit register one higher or lower modulo 0x10000 (which the
ripple across the halves of a pair computes), no flag written, cost 2. Cites: R191, R192. -/
def Obligations.IncDecSixteenForms : Prop :=
  ∀ (ss : R16) (s : State),
    coded [op (16 * ss.code + 3)] (.ofIncR16 ss) ∧
    exec (.ofIncR16 ss) s =
      .next (ok (putReg16 s ss (BitVec.ofNat 16 ((reg16 s ss).toNat + 1))) (s.pc + 1) 2) ∧
    coded [op (16 * ss.code + 11)] (.ofDecR16 ss) ∧
    exec (.ofDecR16 ss) s =
      .next (ok (putReg16 s ss (BitVec.ofNat 16 ((reg16 s ss).toNat + 0xFFFF))) (s.pc + 1) 2)

/-- The encodings, and in every state the next state: HL plus the 16-bit register modulo 0x10000 with CF the carry out of bit
15 and ZF unchanged; SP plus the sign-extended byte into SP or HL, with ZF 0 and CF the carry out of the unsigned low-byte
sum. Costs 2, 4, 3. (The forms with e8 are the spec's decision D17.) Cites: 42_alu16.md R190, 42_alu16.md R193, 42_alu16.md
R194, 42_alu16.md R195. -/
def Obligations.AddSixteenForms : Prop :=
  ∀ (ss : R16) (e : Byte) (s : State),
    (coded [op (16 * ss.code + 9)] (.ofAddHlR16 ss) ∧ exec (.ofAddHlR16 ss) s =
      .next (ok { putPair s .hl (BitVec.ofNat 16 (((hl s).toNat + (reg16 s ss).toNat) % 0x10000)) with
        cf := decide ((hl s).toNat + (reg16 s ss).toNat ≥ 0x10000) } (s.pc + 1) 2)) ∧
    (coded [0xE8, e] (.addSpE8 e) ∧ exec (.addSpE8 e) s =
      .next (ok { s with sp := spPlus s.sp e, zf := false, cf := spCarry s.sp e } (s.pc + 2) 4)) ∧
    (coded [0xF8, e] (.ldHlSpE8 e) ∧ exec (.ldHlSpE8 e) s =
      .next (ok { putPair s .hl (spPlus s.sp e) with zf := false, cf := spCarry s.sp e } (s.pc + 2) 3))

/-- The encodings, and in every state the next state: the pc is pc - 254 + off for a displacement byte over 128 and pc + off
+ 2 otherwise (so 128 is +128), modulo 0x10000, when the condition holds; else pc + 2. Costs 3 taken and 2 untaken; nothing
else changes. (The byte 128 in jr e8 is the spec's decision D18, the costs of jr cc D4.) Cites: 43_control.md R210,
43_control.md R211, 43_control.md R212. -/
def Obligations.RelativeJumpForms : Prop :=
  ∀ (cc : Cond) (e : Byte) (s : State),
    (coded [0x18, e] (.jrE8 e) ∧ exec (.jrE8 e) s = .next (ok s (jrTo s.pc e) 3)) ∧
    (coded [op (0x20 + 8 * cc.code), e] (.ofJrCc cc e) ∧
      exec (.ofJrCc cc e) s = .next (if holds s cc then ok s (jrTo s.pc e) 3 else ok s (s.pc + 2) 2))

/-- The encodings, and in every state the next state: the pc is the immediate (when the condition holds; else pc + 3), or HL
with no memory read; costs 4, 4 or 3, 1; nothing else changes. (The costs of jp cc are the spec's decision D4, jp hl D2.)
Cites: 43_control.md R213, 43_control.md R214, 43_control.md R215. -/
def Obligations.AbsoluteJumpForms : Prop :=
  ∀ (cc : Cond) (n : Word) (s : State),
    (coded [0xC3, lo n, hi n] (.jpN16 n) ∧ exec (.jpN16 n) s = .next (ok s n 4)) ∧
    (coded [op (0xC2 + 8 * cc.code), lo n, hi n] (.ofJpCc cc n) ∧
      exec (.ofJpCc cc n) s = .next (if holds s cc then ok s n 4 else ok s (s.pc + 3) 3)) ∧
    (coded [0xE9] .jpHl ∧ exec .jpHl s = .next (ok s (hl s) 1))

/-- The encodings, and in every state the next state: pc + 3 is pushed and the pc is the target, cost 6; an untaken call
changes only the pc (pc + 3) and the budget (3). (The write order of Push16 is the spec's decision D21.) Cites: 43_control.md
R216, 43_control.md R217, 40_loads.md R130. -/
def Obligations.CallForms : Prop :=
  ∀ (cc : Cond) (n : Word) (s : State),
    (coded [0xCD, lo n, hi n] (.callN16 n) ∧ exec (.callN16 n) s = .next (ok (pushed s (s.pc + 3)) n 6)) ∧
    (coded [op (0xC4 + 8 * cc.code), lo n, hi n] (.ofCallCc cc n) ∧
      exec (.ofCallCc cc n) s = .next (if holds s cc then ok (pushed s (s.pc + 3)) n 6 else ok s (s.pc + 3) 3))

/-- The encodings, and in every state the next state: the pc is the popped word; ret cc taken costs the parameter
RET_CC_TAKEN_COST, whatever it is, and untaken reads no memory, leaves SP and costs 2; reti also sets IME. (The cost of ret
cc is the spec's decision D5, IME D7.) Cites: 43_control.md R218, 43_control.md R219, 43_control.md R220. -/
def Obligations.ReturnForms : Prop :=
  ∀ (cc : Cond) (s : State),
    (coded [0xC9] .ret ∧ exec .ret s = .next (ok (popped s) (popValue s) 4)) ∧
    (coded [op (0xC0 + 8 * cc.code)] (.ofRetCc cc) ∧ exec (.ofRetCc cc) s = .next
      (if holds s cc then ok (popped s) (popValue s) s.config.retCcTakenCost else ok s (s.pc + 1) 2)) ∧
    (coded [0xD9] .reti ∧ exec .reti s = .next (ok { popped s with ime := true } (popValue s) 4))

/-- For each of the eight restart codes: the encoding 0xC7 + 8*t, and in every state the next state: pc + 1 is pushed, the pc
is 8*t, cost 4. (The write order of Push16 is the spec's decision D21.) Cites: 43_control.md R221, 40_loads.md R130. -/
def Obligations.RestartForms : Prop :=
  ∀ (t : Fin 8) (s : State), coded [op (0xC7 + 8 * t.val)] (.ofRst t) ∧
    exec (.ofRst t) s = .next (ok (pushed s (s.pc + 1)) (BitVec.ofNat 16 (8 * t.val)) 4)

/-- The encodings, and in every state the next state: nop changes only pc and the budget; di clears IME and ei sets it, at
once; cost 1. (These are the spec's decisions D2, D7.) Cites: 44_system.md R240, 44_system.md R243, 44_system.md R244. -/
def Obligations.NopAndInterruptEnableForms : Prop :=
  ∀ s : State,
    (coded [0x00] .nop ∧ exec .nop s = .next (ok s (s.pc + 1) 1)) ∧
    (coded [0xF3] .di ∧ exec .di s = .next (ok { s with ime := false } (s.pc + 1) 1)) ∧
    (coded [0xFB] .ei ∧ exec .ei s = .next (ok { s with ime := true } (s.pc + 1) 1))

/-- The encodings (any second byte for stop), in every state the next state with the outcome Halted or Stopped, and a run
whose first instruction is halt or stop returns at once with that outcome, the next pc and the budget less 1. (Halt and stop
are the spec's decisions D8 and D9, the second byte of stop D34, the early stop and the first test of run D8, D9, D12 and
D25.) Cites: 44_system.md R241, 44_system.md R242, 30_encoding.md R95. -/
def Obligations.HaltAndStopForms : Prop :=
  ∀ (x : Byte) (s : State) (b : Int),
    (coded [0x76] .halt ∧ exec .halt s = .next (ends s .halted (s.pc + 1) 1)) ∧
    (coded [0x10, x] (.stop x) ∧ exec (.stop x) s = .next (ends s .stopped (s.pc + 2) 1)) ∧
    (0 < b → s.peek s.pc = 0x76 → (run s.pc b s).ending = .halted ∧ (run s.pc b s).pc = s.pc + 1 ∧
      (run s.pc b s).cycles = b - 1) ∧
    (0 < b → s.peek s.pc = 0x10 → (run s.pc b s).ending = .stopped ∧ (run s.pc b s).pc = s.pc + 2 ∧
      (run s.pc b s).cycles = b - 1)

/-- The encodings, and in every state the next state: A rotated (through the old carry for rla and rra), CF the bit shifted
out, ZF 0 whatever the result, cost 1. (ZF cleared is the spec's decision D14.) Cites: 45_rotate_cb.md R260, 45_rotate_cb.md
R261, 45_rotate_cb.md R262, 45_rotate_cb.md R263. -/
def Obligations.AccumulatorRotateForms : Prop :=
  ∀ s : State,
    let v := s.a.toNat
    (coded [0x07] .rlca ∧ exec .rlca s =
      .next (ok (flagged s ((2 * v + v / 128) % 256) false (decide (v / 128 = 1))) (s.pc + 1) 1)) ∧
    (coded [0x0F] .rrca ∧ exec .rrca s =
      .next (ok (flagged s (v / 2 + 128 * (v % 2)) false (decide (v % 2 = 1))) (s.pc + 1) 1)) ∧
    (coded [0x17] .rla ∧ exec .rla s =
      .next (ok (flagged s ((2 * v + s.cf.toNat) % 256) false (decide (v / 128 = 1))) (s.pc + 1) 1)) ∧
    (coded [0x1F] .rra ∧ exec .rra s =
      .next (ok (flagged s (v / 2 + 128 * s.cf.toNat) false (decide (v % 2 = 1))) (s.pc + 1) 1))

/-- For every operation and register code (56 constructors): the encoding, and in every state the next state: the register
holds the result of the table of R264, ZF set exactly when it is 0, CF the bit shifted out (0 for swap), cost 2. Cites: R265,
R267, R269, R271, R273, R275, R277, R279. -/
def Obligations.RegisterShiftForms : Prop :=
  ∀ (o : ShiftOp) (r : R8) (s : State),
    coded [0xCB, op (8 * o.code + r.code)] (.ofShiftR8 o r) ∧
    let res := shifted o (s.getR8 r).toNat s.cf.toNat
    exec (.ofShiftR8 o r) s =
      .next (ok { s.setR8 r (op res.1) with zf := decide (res.1 = 0), cf := res.2 } (s.pc + 2) 2)

/-- For every operation (8 constructors): the encoding, and in every state the next state: the byte at HL is read, then
written with the result of the table of R264, ZF set exactly when it is 0, CF the bit shifted out (0 for swap), cost 4.
Cites: R266, R268, R270, R272, R274, R276, R278, R280. -/
def Obligations.MemoryShiftForms : Prop :=
  ∀ (o : ShiftOp) (s : State),
    coded [0xCB, op (8 * o.code + 6)] (.ofShiftAtHl o) ∧
    let res := shifted o (s.peek (hl s)).toNat s.cf.toNat
    exec (.ofShiftAtHl o) s =
      .next (ok { stored (saw s [.read (hl s)]) (hl s) (op res.1) with zf := decide (res.1 = 0), cf := res.2 } (s.pc + 2) 4)

/-- For every bit number and register code: the encodings, and in every state the next state: ZF is the complement of the
tested bit, CF, the register and memory unchanged; costs 2 and 3. (These are the spec's decision D16.) Cites: 45_rotate_cb.md
R281, 45_rotate_cb.md R282. -/
def Obligations.BitTestForms : Prop :=
  ∀ (n : Fin 8) (r : R8) (s : State),
    coded [0xCB, op (64 + 8 * n.val + r.code)] (.ofBitR8 n r) ∧
    exec (.ofBitR8 n r) s = .next (ok { s with zf := decide (bitOf (s.getR8 r) n = 0) } (s.pc + 2) 2) ∧
    coded [0xCB, op (64 + 8 * n.val + 6)] (.ofBitAtHl n) ∧
    exec (.ofBitAtHl n) s =
      .next (ok { saw s [.read (hl s)] with zf := decide (bitOf (s.peek (hl s)) n = 0) } (s.pc + 2) 3)

/-- For every bit number and register code: the encodings, and in every state the next state: that bit alone of the register
or of the byte at HL is 0 or 1, the byte always written back, no flag written; costs 2 and 4. (These are the spec's decision
D16.) Cites: 45_rotate_cb.md R283, 45_rotate_cb.md R284, 45_rotate_cb.md R285, 45_rotate_cb.md R286. -/
def Obligations.BitWriteForms : Prop :=
  ∀ (n : Fin 8) (r : R8) (s : State),
    (coded [0xCB, op (128 + 8 * n.val + r.code)] (.ofResR8 n r) ∧
      exec (.ofResR8 n r) s = .next (ok (s.setR8 r (cleared (s.getR8 r) n)) (s.pc + 2) 2)) ∧
    (coded [0xCB, op (128 + 8 * n.val + 6)] (.ofResAtHl n) ∧ exec (.ofResAtHl n) s =
      .next (ok (stored (saw s [.read (hl s)]) (hl s) (cleared (s.peek (hl s)) n)) (s.pc + 2) 4)) ∧
    (coded [0xCB, op (192 + 8 * n.val + r.code)] (.ofSetR8 n r) ∧
      exec (.ofSetR8 n r) s = .next (ok (s.setR8 r (raised (s.getR8 r) n)) (s.pc + 2) 2)) ∧
    (coded [0xCB, op (192 + 8 * n.val + 6)] (.ofSetAtHl n) ∧ exec (.ofSetAtHl n) s =
      .next (ok (stored (saw s [.read (hl s)]) (hl s) (raised (s.peek (hl s)) n)) (s.pc + 2) 4))

/-- For every instruction and state with a next state: an instruction that R29 does not mark as writing ZF leaves ZF, and one
it does not mark as writing CF leaves CF. Cites: 10_state.md R27, 10_state.md R28, 10_state.md R29. -/
def Obligations.FlagsChangeOnlyByTheirWriters : Prop :=
  ∀ (i : Instr) (s t : State), exec i s = .next t →
    (writesZero i = false → t.zf = s.zf) ∧ (writesCarry i = false → t.cf = s.cf)

/-- For every instruction and state with a next state: SP is unchanged unless the instruction is in the list of R25; IME is
unchanged unless it is di, ei or reti; RET_CC_TAKEN_COST is unchanged; the dispatch engine is in Primary-Fetch. (The writers
of IME are the spec's decision D7; that the parameter is a kept field is log 3, DESIGN CHOICE, the dispatch field log 7,
DEDUCED.) Cites: 10_state.md R25, 10_state.md R31, 10_state.md R33, 00_scope.md R7. -/
def Obligations.ControlStateChangesOnlyByItsWriters : Prop :=
  ∀ (i : Instr) (s t : State), exec i s = .next t →
    (writesSp i = false → t.sp = s.sp) ∧ (i ≠ .di → i ≠ .ei → i ≠ .reti → t.ime = s.ime) ∧
    t.config = s.config ∧ t.dispatch = .primaryFetch

/-- For every instruction and state with a next state: every 8-bit register that is not among the destinations its opcode
names (the pair halves for 16-bit destinations, H and L for the [hl+] and [hl-] forms) is unchanged. Cites: 10_state.md R21,
30_encoding.md R82, 30_encoding.md R90. -/
def Obligations.RegistersChangeOnlyAsDestinations : Prop :=
  ∀ (i : Instr) (s t : State), exec i s = .next t → ∀ r : R8, r ∉ dests i → t.getR8 r = s.getR8 r

/-- For every instruction and state with a next state and every address that is not one the instruction stores to (HL, BC,
DE, n16, the page address, n16 and n16 + 1 for SP, the two stack bytes for push, rst, call and a taken call cc; none for
every other form): with the default BUS reading it gives the byte it gave before; with any BUS its cell of the plain RAM is
as before, and with a collaborator's BUS the whole plain RAM is (BusSeesTheRecordedAccesses says what the collaborator's
state becomes). (The write order of a word is the spec's decision D21; how BUS is represented is log 6, DESIGN CHOICE.)
Cites: 20_memory.md R59, 40_loads.md R130. -/
def Obligations.MemoryChangesOnlyWhereStored : Prop :=
  ∀ (i : Instr) (s t : State), exec i s = .next t →
    (∀ a : Word, a ∉ stores i s → (s.accessors = .plainRam → t.peek a = s.peek a) ∧ t.mem.read a.toNat = s.mem.read a.toNat) ∧
    (∀ k, s.accessors = .collaborator k → t.mem = s.mem)

/-- For every instruction and state with a next state: the record of accesses afterwards is the record before with at most
two accesses appended, and no read comes after a write among them; together with StepRunsTheDecodedInstruction they come
after the fetches. (Reads before writes is the spec's decision D21; the record of accesses is the model's own, log 5, DESIGN
CHOICE.) Cites: 20_memory.md R57, 20_memory.md R59. -/
def Obligations.AtMostTwoDataAccesses : Prop :=
  ∀ (i : Instr) (s t : State), exec i s = .next t → ∃ as : List Access, t.bus = s.bus ++ as ∧ as.length ≤ 2 ∧
    ∀ x y v, as ≠ [.write x v, .read y]

/-- Two runs of one step that differ only in IME end alike: the same fault record, or next states that differ at most in IME,
where IME is the same in both or is still what each started with. (That no step reads IME is the spec's decisions D7 and D27,
read as log 13 says, DEDUCED.) Cites: 10_state.md R31, 60_exceptions.md R304. -/
def Obligations.InterruptEnableIsNeverRead : Prop :=
  ∀ (s : State) (v : Bool),
    match step s, step { s with ime := v } with
    | .next t, .next u => u = { t with ime := u.ime } ∧ (u.ime = t.ime ∨ (t.ime = s.ime ∧ u.ime = v))
    | .fault f, .fault g => f = g
    | .refused f, .refused g => f = g
    | _, _ => False

/-- For every instruction outside the complete list of R30, two executions that differ only in ZF and CF end alike: the same
fault record, or next states that differ at most in the flags, where each flag is the same in both or is still what each
started with. (The complete list of R30 is the spec's decision D30.) Cites: 10_state.md R30. -/
def Obligations.FlagsAreReadOnlyByTheReaders : Prop :=
  ∀ (i : Instr) (s : State) (z c : Bool), readsFlags i = false →
    match exec i s, exec i { s with zf := z, cf := c } with
    | .next t, .next u => u = { t with zf := u.zf, cf := u.cf } ∧ (u.zf = t.zf ∨ (t.zf = s.zf ∧ u.zf = z)) ∧
        (u.cf = t.cf ∨ (t.cf = s.cf ∧ u.cf = c))
    | .fault f, .fault g => f = g
    | .refused f, .refused g => f = g
    | _, _ => False

/-- With RET_CC_TAKEN_COST in the range 1 to 6, every instruction that completes lowers the budget by at least 1 and at most
6; so a budget of at least -2^31 + 6 stays in the range of i32 below. (The i32 clause is the spec's decision D26, log 14,
DEDUCED; the range 1 to 6 asked of the parameter is log 3, DESIGN CHOICE.) Cites: 70_reset_and_hazards.md R338, 10_state.md
R34. -/
def Obligations.CostsAreOneToSix : Prop :=
  ∀ (i : Instr) (s t : State), s.config.wellFormed = true → exec i s = .next t →
    1 ≤ s.cycles - t.cycles ∧ s.cycles - t.cycles ≤ 6 ∧ (-2 ^ 31 + 6 ≤ s.cycles → -2 ^ 31 ≤ t.cycles)

/-- With RET_CC_TAKEN_COST in the range 1 to 6: a run with a budget of 0 or less executes nothing and returns it; otherwise a
fault of the step at pc returns the fault with state, pc and budget unchanged (but that a collaborator's BUS has seen the
opcode fetch), a Halted or Stopped step returns its outcome with the next state, and an Ok step goes on as the run from the
next pc with the budget left. (The early stop and the test before each step are the spec's decisions D8, D9, D12 and D25, the
bound on the steps log 12, DEDUCED; that a run that takes no step leaves the pc argument and the budget in the state, the
first clause, is the model's choice, log 15, DESIGN CHOICE; that a faulting step's fetch is seen by a collaborator is log 6.)
Cites: 30_encoding.md R95, 60_exceptions.md R307. -/
def Obligations.RunFollowsTheLoop : Prop :=
  ∀ (pc : Word) (b : Int) (s : State), s.config.wellFormed = true →
    (b ≤ 0 → run pc b s = { ending := .ok, pc := pc, cycles := b, state := { s with pc := pc, cycles := b } }) ∧
    (0 < b → ∀ f, stepAt pc b s = .fault f →
      run pc b s =
        { ending := .fault f, pc := pc, cycles := b, state := { callerDid s [.read pc] with pc := pc, cycles := b } }) ∧
    (0 < b → ∀ t, stepAt pc b s = .next t →
      (t.outcome = .halted → run pc b s = { ending := .halted, pc := t.pc, cycles := t.cycles, state := t }) ∧
      (t.outcome = .stopped → run pc b s = { ending := .stopped, pc := t.pc, cycles := t.cycles, state := t }) ∧
      (t.outcome = .ok → run pc b s = run t.pc t.cycles t))

/-- With RET_CC_TAKEN_COST in the range 1 to 6, a run with a positive budget always ends (by its budget, by halt, by stop or
by the fault), and when it ends by its budget what is left is at most 0 and at least -5. (The early stop and the test before
each step are the spec's decisions D8, D9, D12 and D25, the bound on the steps log 12, DEDUCED; the range of the parameter is
log 3, DESIGN CHOICE.) Cites: 30_encoding.md R95, 70_reset_and_hazards.md R339. -/
def Obligations.RunOverrunIsAtMostFive : Prop :=
  ∀ (pc : Word) (b : Int) (s : State), s.config.wellFormed = true → 0 < b →
    ((run pc b s).ending = .ok ∧ -5 ≤ (run pc b s).cycles ∧ (run pc b s).cycles ≤ 0) ∨
    (run pc b s).ending = .halted ∨ (run pc b s).ending = .stopped ∨
    ∃ opcode at_, (run pc b s).ending = .fault (.unimplementedOpcode opcode false at_)

/-- In every state: a step answers a next state exactly when the byte at the pc is none of the twelve faulting opcodes;
otherwise it ends in the fault record with that byte and the pc. (The list of twelve is the spec's decisions D10 and D11, the
fault outcome of R307 D12; the model's reading is log 9, DEDUCED.) Cites: 30_encoding.md R92, 60_exceptions.md R306,
60_exceptions.md R307. -/
def Obligations.SafetyIsDecidedByTheOpcodeByte : Prop :=
  ∀ s : State, (nextStepSafe s = true → ∃ t, step s = .next t) ∧
    (nextStepSafe s = false → step s = .fault (.unimplementedOpcode (s.peek s.pc) false s.pc))

/-- For every instruction and state with a next state, whatever the BUS: the cells of the plain RAM, the collaborator's own
state and the record of accesses afterwards are what one list of accesses, made one after the other, leaves of them; so a
collaborator sees exactly the accesses that the record holds, in their order, and the default BUS stays the default. (BUS is
the spec's decisions D24 and D28, the order D21; how BUS is represented is log 6, DESIGN CHOICE, and the record log 5, DESIGN
CHOICE.) Cites: 20_memory.md R51, 20_memory.md R58, 20_memory.md R59, 00_scope.md R7. -/
def Obligations.BusSeesTheRecordedAccesses : Prop :=
  ∀ (i : Instr) (s t : State), exec i s = .next t → ∃ as : List Access,
    t.mem = (saw s as).mem ∧ t.accessors = (saw s as).accessors ∧ t.bus = s.bus ++ as ∧
    (s.accessors = .plainRam ↔ t.accessors = .plainRam)

/-- With the default BUS: a read changes nothing but the record of accesses, so a second one returns the same byte; with
canonical memory a read after a write to the address gives the byte written, and a write leaves every other byte as it was; a
repeated write changes no byte. (The default BUS is the spec's decision D24, its side effects D28, the order D35; how it is
represented is log 6, DESIGN CHOICE, the canonical form log 2, DESIGN CHOICE.) Cites: 20_memory.md R50, 20_memory.md R58,
20_memory.md R62, 00_scope.md R7. -/
def Obligations.DefaultBusIsPlainRam : Prop :=
  ∀ (s : State) (addr : Word) (v : Byte), s.accessors = .plainRam →
    (s.readByte addr).2 = { s with bus := s.bus ++ [.read addr] } ∧
    ((s.readByte addr).2.readByte addr).1 = (s.readByte addr).1 ∧
    (s.mem.wf = true → ((s.writeByte addr v).readByte addr).1 = v) ∧
    (∀ x, x ≠ addr → ((s.writeByte addr v).readByte x).1 = (s.readByte x).1) ∧
    (s.mem.wf = true → ∀ x, ((s.writeByte addr v).writeByte addr v).peek x = (s.writeByte addr v).peek x)
end

