-- ==== Sys2Proof/Laws/State.lean ====
section
/-! SUPPORT. One lemma per field per update of State, true by unfolding and tagged simp, so that later proofs unfold no record update.
A lemma `<update>_<field>` says what the field holds after the update. -/

namespace Sys2Proof.Machine

section
variable (s : State) (addr : Word)
@[simp] theorem State.afterRead_a : (s.afterRead addr).a = s.a := rfl
@[simp] theorem State.afterRead_b : (s.afterRead addr).b = s.b := rfl
@[simp] theorem State.afterRead_c : (s.afterRead addr).c = s.c := rfl
@[simp] theorem State.afterRead_d : (s.afterRead addr).d = s.d := rfl
@[simp] theorem State.afterRead_e : (s.afterRead addr).e = s.e := rfl
@[simp] theorem State.afterRead_h : (s.afterRead addr).h = s.h := rfl
@[simp] theorem State.afterRead_l : (s.afterRead addr).l = s.l := rfl
@[simp] theorem State.afterRead_sp : (s.afterRead addr).sp = s.sp := rfl
@[simp] theorem State.afterRead_pc : (s.afterRead addr).pc = s.pc := rfl
@[simp] theorem State.afterRead_zf : (s.afterRead addr).zf = s.zf := rfl
@[simp] theorem State.afterRead_cf : (s.afterRead addr).cf = s.cf := rfl
@[simp] theorem State.afterRead_ime : (s.afterRead addr).ime = s.ime := rfl
@[simp] theorem State.afterRead_mem : (s.afterRead addr).mem = s.mem := rfl
@[simp] theorem State.afterRead_accessors : (s.afterRead addr).accessors = s.accessors.afterRead addr := rfl
@[simp] theorem State.afterRead_dispatch : (s.afterRead addr).dispatch = s.dispatch := rfl
@[simp] theorem State.afterRead_cycles : (s.afterRead addr).cycles = s.cycles := rfl
@[simp] theorem State.afterRead_outcome : (s.afterRead addr).outcome = s.outcome := rfl
@[simp] theorem State.afterRead_config : (s.afterRead addr).config = s.config := rfl
@[simp] theorem State.afterRead_bus : (s.afterRead addr).bus = s.bus := rfl
end

section
variable (s : State) (addr : Word) (v : Byte)
@[simp] theorem State.store_a : (s.store addr v).a = s.a := rfl
@[simp] theorem State.store_b : (s.store addr v).b = s.b := rfl
@[simp] theorem State.store_c : (s.store addr v).c = s.c := rfl
@[simp] theorem State.store_d : (s.store addr v).d = s.d := rfl
@[simp] theorem State.store_e : (s.store addr v).e = s.e := rfl
@[simp] theorem State.store_h : (s.store addr v).h = s.h := rfl
@[simp] theorem State.store_l : (s.store addr v).l = s.l := rfl
@[simp] theorem State.store_sp : (s.store addr v).sp = s.sp := rfl
@[simp] theorem State.store_pc : (s.store addr v).pc = s.pc := rfl
@[simp] theorem State.store_zf : (s.store addr v).zf = s.zf := rfl
@[simp] theorem State.store_cf : (s.store addr v).cf = s.cf := rfl
@[simp] theorem State.store_ime : (s.store addr v).ime = s.ime := rfl
@[simp] theorem State.store_mem : (s.store addr v).mem = s.accessors.cellsAfterWrite s.mem addr v := rfl
@[simp] theorem State.store_accessors : (s.store addr v).accessors = s.accessors.afterWrite addr v := rfl
@[simp] theorem State.store_dispatch : (s.store addr v).dispatch = s.dispatch := rfl
@[simp] theorem State.store_cycles : (s.store addr v).cycles = s.cycles := rfl
@[simp] theorem State.store_outcome : (s.store addr v).outcome = s.outcome := rfl
@[simp] theorem State.store_config : (s.store addr v).config = s.config := rfl
@[simp] theorem State.store_bus : (s.store addr v).bus = s.bus := rfl
end

section
variable (s : State) (addr : Word)
@[simp] theorem State.readByte_snd_a : ((s.readByte addr).2).a = s.a := rfl
@[simp] theorem State.readByte_snd_b : ((s.readByte addr).2).b = s.b := rfl
@[simp] theorem State.readByte_snd_c : ((s.readByte addr).2).c = s.c := rfl
@[simp] theorem State.readByte_snd_d : ((s.readByte addr).2).d = s.d := rfl
@[simp] theorem State.readByte_snd_e : ((s.readByte addr).2).e = s.e := rfl
@[simp] theorem State.readByte_snd_h : ((s.readByte addr).2).h = s.h := rfl
@[simp] theorem State.readByte_snd_l : ((s.readByte addr).2).l = s.l := rfl
@[simp] theorem State.readByte_snd_sp : ((s.readByte addr).2).sp = s.sp := rfl
@[simp] theorem State.readByte_snd_pc : ((s.readByte addr).2).pc = s.pc := rfl
@[simp] theorem State.readByte_snd_zf : ((s.readByte addr).2).zf = s.zf := rfl
@[simp] theorem State.readByte_snd_cf : ((s.readByte addr).2).cf = s.cf := rfl
@[simp] theorem State.readByte_snd_ime : ((s.readByte addr).2).ime = s.ime := rfl
@[simp] theorem State.readByte_snd_mem : ((s.readByte addr).2).mem = s.mem := rfl
@[simp] theorem State.readByte_snd_accessors : ((s.readByte addr).2).accessors = s.accessors.afterRead addr := rfl
@[simp] theorem State.readByte_snd_dispatch : ((s.readByte addr).2).dispatch = s.dispatch := rfl
@[simp] theorem State.readByte_snd_cycles : ((s.readByte addr).2).cycles = s.cycles := rfl
@[simp] theorem State.readByte_snd_outcome : ((s.readByte addr).2).outcome = s.outcome := rfl
@[simp] theorem State.readByte_snd_config : ((s.readByte addr).2).config = s.config := rfl
@[simp] theorem State.readByte_snd_bus : ((s.readByte addr).2).bus = s.bus ++ [.read addr] := rfl
end

section
variable (s : State) (addr : Word) (v : Byte)
@[simp] theorem State.writeByte_a : (s.writeByte addr v).a = s.a := rfl
@[simp] theorem State.writeByte_b : (s.writeByte addr v).b = s.b := rfl
@[simp] theorem State.writeByte_c : (s.writeByte addr v).c = s.c := rfl
@[simp] theorem State.writeByte_d : (s.writeByte addr v).d = s.d := rfl
@[simp] theorem State.writeByte_e : (s.writeByte addr v).e = s.e := rfl
@[simp] theorem State.writeByte_h : (s.writeByte addr v).h = s.h := rfl
@[simp] theorem State.writeByte_l : (s.writeByte addr v).l = s.l := rfl
@[simp] theorem State.writeByte_sp : (s.writeByte addr v).sp = s.sp := rfl
@[simp] theorem State.writeByte_pc : (s.writeByte addr v).pc = s.pc := rfl
@[simp] theorem State.writeByte_zf : (s.writeByte addr v).zf = s.zf := rfl
@[simp] theorem State.writeByte_cf : (s.writeByte addr v).cf = s.cf := rfl
@[simp] theorem State.writeByte_ime : (s.writeByte addr v).ime = s.ime := rfl
@[simp] theorem State.writeByte_mem : (s.writeByte addr v).mem = s.accessors.cellsAfterWrite s.mem addr v := rfl
@[simp] theorem State.writeByte_accessors : (s.writeByte addr v).accessors = s.accessors.afterWrite addr v := rfl
@[simp] theorem State.writeByte_dispatch : (s.writeByte addr v).dispatch = s.dispatch := rfl
@[simp] theorem State.writeByte_cycles : (s.writeByte addr v).cycles = s.cycles := rfl
@[simp] theorem State.writeByte_outcome : (s.writeByte addr v).outcome = s.outcome := rfl
@[simp] theorem State.writeByte_config : (s.writeByte addr v).config = s.config := rfl
@[simp] theorem State.writeByte_bus : (s.writeByte addr v).bus = s.bus ++ [.write addr v] := rfl
end

section
variable (s : State) (addr : Word)
@[simp] theorem State.readWord_snd_a : ((s.readWord addr).2).a = s.a := rfl
@[simp] theorem State.readWord_snd_b : ((s.readWord addr).2).b = s.b := rfl
@[simp] theorem State.readWord_snd_c : ((s.readWord addr).2).c = s.c := rfl
@[simp] theorem State.readWord_snd_d : ((s.readWord addr).2).d = s.d := rfl
@[simp] theorem State.readWord_snd_e : ((s.readWord addr).2).e = s.e := rfl
@[simp] theorem State.readWord_snd_h : ((s.readWord addr).2).h = s.h := rfl
@[simp] theorem State.readWord_snd_l : ((s.readWord addr).2).l = s.l := rfl
@[simp] theorem State.readWord_snd_sp : ((s.readWord addr).2).sp = s.sp := rfl
@[simp] theorem State.readWord_snd_pc : ((s.readWord addr).2).pc = s.pc := rfl
@[simp] theorem State.readWord_snd_zf : ((s.readWord addr).2).zf = s.zf := rfl
@[simp] theorem State.readWord_snd_cf : ((s.readWord addr).2).cf = s.cf := rfl
@[simp] theorem State.readWord_snd_ime : ((s.readWord addr).2).ime = s.ime := rfl
@[simp] theorem State.readWord_snd_mem : ((s.readWord addr).2).mem = s.mem := rfl
@[simp] theorem State.readWord_snd_accessors : ((s.readWord addr).2).accessors = (s.accessors.afterRead addr).afterRead (addr + 1) := rfl
@[simp] theorem State.readWord_snd_dispatch : ((s.readWord addr).2).dispatch = s.dispatch := rfl
@[simp] theorem State.readWord_snd_cycles : ((s.readWord addr).2).cycles = s.cycles := rfl
@[simp] theorem State.readWord_snd_outcome : ((s.readWord addr).2).outcome = s.outcome := rfl
@[simp] theorem State.readWord_snd_config : ((s.readWord addr).2).config = s.config := rfl
@[simp] theorem State.readWord_snd_bus : ((s.readWord addr).2).bus = s.bus ++ [.read addr] ++ [.read (addr + 1)] := rfl
end

section
variable (s : State) (addr v : Word)
@[simp] theorem State.writeWord_a : (s.writeWord addr v).a = s.a := rfl
@[simp] theorem State.writeWord_b : (s.writeWord addr v).b = s.b := rfl
@[simp] theorem State.writeWord_c : (s.writeWord addr v).c = s.c := rfl
@[simp] theorem State.writeWord_d : (s.writeWord addr v).d = s.d := rfl
@[simp] theorem State.writeWord_e : (s.writeWord addr v).e = s.e := rfl
@[simp] theorem State.writeWord_h : (s.writeWord addr v).h = s.h := rfl
@[simp] theorem State.writeWord_l : (s.writeWord addr v).l = s.l := rfl
@[simp] theorem State.writeWord_sp : (s.writeWord addr v).sp = s.sp := rfl
@[simp] theorem State.writeWord_pc : (s.writeWord addr v).pc = s.pc := rfl
@[simp] theorem State.writeWord_zf : (s.writeWord addr v).zf = s.zf := rfl
@[simp] theorem State.writeWord_cf : (s.writeWord addr v).cf = s.cf := rfl
@[simp] theorem State.writeWord_ime : (s.writeWord addr v).ime = s.ime := rfl
@[simp] theorem State.writeWord_mem : (s.writeWord addr v).mem = (s.accessors.afterWrite addr (loByte v)).cellsAfterWrite (s.accessors.cellsAfterWrite s.mem addr (loByte v)) (addr + 1) (hiByte v) := rfl
@[simp] theorem State.writeWord_accessors : (s.writeWord addr v).accessors = (s.accessors.afterWrite addr (loByte v)).afterWrite (addr + 1) (hiByte v) := rfl
@[simp] theorem State.writeWord_dispatch : (s.writeWord addr v).dispatch = s.dispatch := rfl
@[simp] theorem State.writeWord_cycles : (s.writeWord addr v).cycles = s.cycles := rfl
@[simp] theorem State.writeWord_outcome : (s.writeWord addr v).outcome = s.outcome := rfl
@[simp] theorem State.writeWord_config : (s.writeWord addr v).config = s.config := rfl
@[simp] theorem State.writeWord_bus : (s.writeWord addr v).bus = s.bus ++ [.write addr (loByte v)] ++ [.write (addr + 1) (hiByte v)] := rfl
end

section
variable (s : State) (v : Word)
@[simp] theorem State.push16_a : (s.push16 v).a = s.a := rfl
@[simp] theorem State.push16_b : (s.push16 v).b = s.b := rfl
@[simp] theorem State.push16_c : (s.push16 v).c = s.c := rfl
@[simp] theorem State.push16_d : (s.push16 v).d = s.d := rfl
@[simp] theorem State.push16_e : (s.push16 v).e = s.e := rfl
@[simp] theorem State.push16_h : (s.push16 v).h = s.h := rfl
@[simp] theorem State.push16_l : (s.push16 v).l = s.l := rfl
@[simp] theorem State.push16_sp : (s.push16 v).sp = s.sp - 2 := rfl
@[simp] theorem State.push16_pc : (s.push16 v).pc = s.pc := rfl
@[simp] theorem State.push16_zf : (s.push16 v).zf = s.zf := rfl
@[simp] theorem State.push16_cf : (s.push16 v).cf = s.cf := rfl
@[simp] theorem State.push16_ime : (s.push16 v).ime = s.ime := rfl
@[simp] theorem State.push16_mem : (s.push16 v).mem = (s.accessors.afterWrite (s.sp - 2) (loByte v)).cellsAfterWrite (s.accessors.cellsAfterWrite s.mem (s.sp - 2) (loByte v)) ((s.sp - 2) + 1) (hiByte v) := rfl
@[simp] theorem State.push16_accessors : (s.push16 v).accessors = (s.accessors.afterWrite (s.sp - 2) (loByte v)).afterWrite ((s.sp - 2) + 1) (hiByte v) := rfl
@[simp] theorem State.push16_dispatch : (s.push16 v).dispatch = s.dispatch := rfl
@[simp] theorem State.push16_cycles : (s.push16 v).cycles = s.cycles := rfl
@[simp] theorem State.push16_outcome : (s.push16 v).outcome = s.outcome := rfl
@[simp] theorem State.push16_config : (s.push16 v).config = s.config := rfl
@[simp] theorem State.push16_bus : (s.push16 v).bus = s.bus ++ [.write (s.sp - 2) (loByte v)] ++ [.write (s.sp - 2 + 1) (hiByte v)] := rfl
end

section
variable (s : State)
@[simp] theorem State.pop16_snd_a : (s.pop16.2).a = s.a := rfl
@[simp] theorem State.pop16_snd_b : (s.pop16.2).b = s.b := rfl
@[simp] theorem State.pop16_snd_c : (s.pop16.2).c = s.c := rfl
@[simp] theorem State.pop16_snd_d : (s.pop16.2).d = s.d := rfl
@[simp] theorem State.pop16_snd_e : (s.pop16.2).e = s.e := rfl
@[simp] theorem State.pop16_snd_h : (s.pop16.2).h = s.h := rfl
@[simp] theorem State.pop16_snd_l : (s.pop16.2).l = s.l := rfl
@[simp] theorem State.pop16_snd_sp : (s.pop16.2).sp = s.sp + 2 := rfl
@[simp] theorem State.pop16_snd_pc : (s.pop16.2).pc = s.pc := rfl
@[simp] theorem State.pop16_snd_zf : (s.pop16.2).zf = s.zf := rfl
@[simp] theorem State.pop16_snd_cf : (s.pop16.2).cf = s.cf := rfl
@[simp] theorem State.pop16_snd_ime : (s.pop16.2).ime = s.ime := rfl
@[simp] theorem State.pop16_snd_mem : (s.pop16.2).mem = s.mem := rfl
@[simp] theorem State.pop16_snd_accessors : (s.pop16.2).accessors = (s.accessors.afterRead s.sp).afterRead (s.sp + 1) := rfl
@[simp] theorem State.pop16_snd_dispatch : (s.pop16.2).dispatch = s.dispatch := rfl
@[simp] theorem State.pop16_snd_cycles : (s.pop16.2).cycles = s.cycles := rfl
@[simp] theorem State.pop16_snd_outcome : (s.pop16.2).outcome = s.outcome := rfl
@[simp] theorem State.pop16_snd_config : (s.pop16.2).config = s.config := rfl
@[simp] theorem State.pop16_snd_bus : (s.pop16.2).bus = s.bus ++ [.read s.sp] ++ [.read (s.sp + 1)] := rfl
end

section
variable (s : State)
@[simp] theorem State.leaveHandler_snd_a : (s.leaveHandler.2).a = s.a := rfl
@[simp] theorem State.leaveHandler_snd_b : (s.leaveHandler.2).b = s.b := rfl
@[simp] theorem State.leaveHandler_snd_c : (s.leaveHandler.2).c = s.c := rfl
@[simp] theorem State.leaveHandler_snd_d : (s.leaveHandler.2).d = s.d := rfl
@[simp] theorem State.leaveHandler_snd_e : (s.leaveHandler.2).e = s.e := rfl
@[simp] theorem State.leaveHandler_snd_h : (s.leaveHandler.2).h = s.h := rfl
@[simp] theorem State.leaveHandler_snd_l : (s.leaveHandler.2).l = s.l := rfl
@[simp] theorem State.leaveHandler_snd_sp : (s.leaveHandler.2).sp = s.sp + 2 := rfl
@[simp] theorem State.leaveHandler_snd_pc : (s.leaveHandler.2).pc = s.pc := rfl
@[simp] theorem State.leaveHandler_snd_zf : (s.leaveHandler.2).zf = s.zf := rfl
@[simp] theorem State.leaveHandler_snd_cf : (s.leaveHandler.2).cf = s.cf := rfl
@[simp] theorem State.leaveHandler_snd_ime : (s.leaveHandler.2).ime = true := rfl
@[simp] theorem State.leaveHandler_snd_mem : (s.leaveHandler.2).mem = s.mem := rfl
@[simp] theorem State.leaveHandler_snd_accessors : (s.leaveHandler.2).accessors = (s.accessors.afterRead s.sp).afterRead (s.sp + 1) := rfl
@[simp] theorem State.leaveHandler_snd_dispatch : (s.leaveHandler.2).dispatch = s.dispatch := rfl
@[simp] theorem State.leaveHandler_snd_cycles : (s.leaveHandler.2).cycles = s.cycles := rfl
@[simp] theorem State.leaveHandler_snd_outcome : (s.leaveHandler.2).outcome = s.outcome := rfl
@[simp] theorem State.leaveHandler_snd_config : (s.leaveHandler.2).config = s.config := rfl
@[simp] theorem State.leaveHandler_snd_bus : (s.leaveHandler.2).bus = s.bus ++ [.read s.sp] ++ [.read (s.sp + 1)] := rfl
end

section
variable (s : State) (o : StepOutcome) (target : Word) (cost : Nat)
@[simp] theorem State.retireAs_a : (s.retireAs o target cost).a = s.a := rfl
@[simp] theorem State.retireAs_b : (s.retireAs o target cost).b = s.b := rfl
@[simp] theorem State.retireAs_c : (s.retireAs o target cost).c = s.c := rfl
@[simp] theorem State.retireAs_d : (s.retireAs o target cost).d = s.d := rfl
@[simp] theorem State.retireAs_e : (s.retireAs o target cost).e = s.e := rfl
@[simp] theorem State.retireAs_h : (s.retireAs o target cost).h = s.h := rfl
@[simp] theorem State.retireAs_l : (s.retireAs o target cost).l = s.l := rfl
@[simp] theorem State.retireAs_sp : (s.retireAs o target cost).sp = s.sp := rfl
@[simp] theorem State.retireAs_pc : (s.retireAs o target cost).pc = target := rfl
@[simp] theorem State.retireAs_zf : (s.retireAs o target cost).zf = s.zf := rfl
@[simp] theorem State.retireAs_cf : (s.retireAs o target cost).cf = s.cf := rfl
@[simp] theorem State.retireAs_ime : (s.retireAs o target cost).ime = s.ime := rfl
@[simp] theorem State.retireAs_mem : (s.retireAs o target cost).mem = s.mem := rfl
@[simp] theorem State.retireAs_accessors : (s.retireAs o target cost).accessors = s.accessors := rfl
@[simp] theorem State.retireAs_dispatch : (s.retireAs o target cost).dispatch = .primaryFetch := rfl
@[simp] theorem State.retireAs_cycles : (s.retireAs o target cost).cycles = s.cycles - cost := rfl
@[simp] theorem State.retireAs_outcome : (s.retireAs o target cost).outcome = o := rfl
@[simp] theorem State.retireAs_config : (s.retireAs o target cost).config = s.config := rfl
@[simp] theorem State.retireAs_bus : (s.retireAs o target cost).bus = s.bus := rfl
end

section
variable (s : State) (target : Word) (cost : Nat)
@[simp] theorem State.retire_a : (s.retire target cost).a = s.a := rfl
@[simp] theorem State.retire_b : (s.retire target cost).b = s.b := rfl
@[simp] theorem State.retire_c : (s.retire target cost).c = s.c := rfl
@[simp] theorem State.retire_d : (s.retire target cost).d = s.d := rfl
@[simp] theorem State.retire_e : (s.retire target cost).e = s.e := rfl
@[simp] theorem State.retire_h : (s.retire target cost).h = s.h := rfl
@[simp] theorem State.retire_l : (s.retire target cost).l = s.l := rfl
@[simp] theorem State.retire_sp : (s.retire target cost).sp = s.sp := rfl
@[simp] theorem State.retire_pc : (s.retire target cost).pc = target := rfl
@[simp] theorem State.retire_zf : (s.retire target cost).zf = s.zf := rfl
@[simp] theorem State.retire_cf : (s.retire target cost).cf = s.cf := rfl
@[simp] theorem State.retire_ime : (s.retire target cost).ime = s.ime := rfl
@[simp] theorem State.retire_mem : (s.retire target cost).mem = s.mem := rfl
@[simp] theorem State.retire_accessors : (s.retire target cost).accessors = s.accessors := rfl
@[simp] theorem State.retire_dispatch : (s.retire target cost).dispatch = .primaryFetch := rfl
@[simp] theorem State.retire_cycles : (s.retire target cost).cycles = s.cycles - cost := rfl
@[simp] theorem State.retire_outcome : (s.retire target cost).outcome = .ok := rfl
@[simp] theorem State.retire_config : (s.retire target cost).config = s.config := rfl
@[simp] theorem State.retire_bus : (s.retire target cost).bus = s.bus := rfl
end

section
variable (s : State) (r : R8) (v : Byte)
@[simp] theorem State.setR8_sp : (s.setR8 r v).sp = s.sp := by cases r <;> rfl
@[simp] theorem State.setR8_pc : (s.setR8 r v).pc = s.pc := by cases r <;> rfl
@[simp] theorem State.setR8_zf : (s.setR8 r v).zf = s.zf := by cases r <;> rfl
@[simp] theorem State.setR8_cf : (s.setR8 r v).cf = s.cf := by cases r <;> rfl
@[simp] theorem State.setR8_ime : (s.setR8 r v).ime = s.ime := by cases r <;> rfl
@[simp] theorem State.setR8_mem : (s.setR8 r v).mem = s.mem := by cases r <;> rfl
@[simp] theorem State.setR8_accessors : (s.setR8 r v).accessors = s.accessors := by cases r <;> rfl
@[simp] theorem State.setR8_dispatch : (s.setR8 r v).dispatch = s.dispatch := by cases r <;> rfl
@[simp] theorem State.setR8_cycles : (s.setR8 r v).cycles = s.cycles := by cases r <;> rfl
@[simp] theorem State.setR8_outcome : (s.setR8 r v).outcome = s.outcome := by cases r <;> rfl
@[simp] theorem State.setR8_config : (s.setR8 r v).config = s.config := by cases r <;> rfl
@[simp] theorem State.setR8_bus : (s.setR8 r v).bus = s.bus := by cases r <;> rfl
end

section
variable (s : State) (q : Pair) (v : Word)
@[simp] theorem State.setPair_a : (s.setPair q v).a = s.a := by cases q <;> rfl
@[simp] theorem State.setPair_sp : (s.setPair q v).sp = s.sp := by cases q <;> rfl
@[simp] theorem State.setPair_pc : (s.setPair q v).pc = s.pc := by cases q <;> rfl
@[simp] theorem State.setPair_zf : (s.setPair q v).zf = s.zf := by cases q <;> rfl
@[simp] theorem State.setPair_cf : (s.setPair q v).cf = s.cf := by cases q <;> rfl
@[simp] theorem State.setPair_ime : (s.setPair q v).ime = s.ime := by cases q <;> rfl
@[simp] theorem State.setPair_mem : (s.setPair q v).mem = s.mem := by cases q <;> rfl
@[simp] theorem State.setPair_accessors : (s.setPair q v).accessors = s.accessors := by cases q <;> rfl
@[simp] theorem State.setPair_dispatch : (s.setPair q v).dispatch = s.dispatch := by cases q <;> rfl
@[simp] theorem State.setPair_cycles : (s.setPair q v).cycles = s.cycles := by cases q <;> rfl
@[simp] theorem State.setPair_outcome : (s.setPair q v).outcome = s.outcome := by cases q <;> rfl
@[simp] theorem State.setPair_config : (s.setPair q v).config = s.config := by cases q <;> rfl
@[simp] theorem State.setPair_bus : (s.setPair q v).bus = s.bus := by cases q <;> rfl
end

section
variable (s : State) (ss : R16) (v : Word)
@[simp] theorem State.setR16_a : (s.setR16 ss v).a = s.a := by cases ss <;> rfl
@[simp] theorem State.setR16_sp : (s.setR16 ss v).sp = if ss = .sp then v else s.sp := by cases ss <;> rfl
@[simp] theorem State.setR16_pc : (s.setR16 ss v).pc = s.pc := by cases ss <;> rfl
@[simp] theorem State.setR16_zf : (s.setR16 ss v).zf = s.zf := by cases ss <;> rfl
@[simp] theorem State.setR16_cf : (s.setR16 ss v).cf = s.cf := by cases ss <;> rfl
@[simp] theorem State.setR16_ime : (s.setR16 ss v).ime = s.ime := by cases ss <;> rfl
@[simp] theorem State.setR16_mem : (s.setR16 ss v).mem = s.mem := by cases ss <;> rfl
@[simp] theorem State.setR16_accessors : (s.setR16 ss v).accessors = s.accessors := by cases ss <;> rfl
@[simp] theorem State.setR16_dispatch : (s.setR16 ss v).dispatch = s.dispatch := by cases ss <;> rfl
@[simp] theorem State.setR16_cycles : (s.setR16 ss v).cycles = s.cycles := by cases ss <;> rfl
@[simp] theorem State.setR16_outcome : (s.setR16 ss v).outcome = s.outcome := by cases ss <;> rfl
@[simp] theorem State.setR16_config : (s.setR16 ss v).config = s.config := by cases ss <;> rfl
@[simp] theorem State.setR16_bus : (s.setR16 ss v).bus = s.bus := by cases ss <;> rfl
end

section
variable (s : State) (addr : Word)
@[simp] theorem State.loadAcc_a : (loadAcc s addr).a = s.peek addr := rfl
@[simp] theorem State.loadAcc_b : (loadAcc s addr).b = s.b := rfl
@[simp] theorem State.loadAcc_c : (loadAcc s addr).c = s.c := rfl
@[simp] theorem State.loadAcc_d : (loadAcc s addr).d = s.d := rfl
@[simp] theorem State.loadAcc_e : (loadAcc s addr).e = s.e := rfl
@[simp] theorem State.loadAcc_h : (loadAcc s addr).h = s.h := rfl
@[simp] theorem State.loadAcc_l : (loadAcc s addr).l = s.l := rfl
@[simp] theorem State.loadAcc_sp : (loadAcc s addr).sp = s.sp := rfl
@[simp] theorem State.loadAcc_pc : (loadAcc s addr).pc = s.pc := rfl
@[simp] theorem State.loadAcc_zf : (loadAcc s addr).zf = s.zf := rfl
@[simp] theorem State.loadAcc_cf : (loadAcc s addr).cf = s.cf := rfl
@[simp] theorem State.loadAcc_ime : (loadAcc s addr).ime = s.ime := rfl
@[simp] theorem State.loadAcc_mem : (loadAcc s addr).mem = s.mem := rfl
@[simp] theorem State.loadAcc_accessors : (loadAcc s addr).accessors = s.accessors.afterRead addr := rfl
@[simp] theorem State.loadAcc_dispatch : (loadAcc s addr).dispatch = s.dispatch := rfl
@[simp] theorem State.loadAcc_cycles : (loadAcc s addr).cycles = s.cycles := rfl
@[simp] theorem State.loadAcc_outcome : (loadAcc s addr).outcome = s.outcome := rfl
@[simp] theorem State.loadAcc_config : (loadAcc s addr).config = s.config := rfl
@[simp] theorem State.loadAcc_bus : (loadAcc s addr).bus = s.bus ++ [.read addr] := rfl
end

section
variable (s : State) (op : AluOp) (v : Byte)
@[simp] theorem State.applyAlu_a : (s.applyAlu op v).a = (alu8 op s.a v s.cf).1 := rfl
@[simp] theorem State.applyAlu_b : (s.applyAlu op v).b = s.b := rfl
@[simp] theorem State.applyAlu_c : (s.applyAlu op v).c = s.c := rfl
@[simp] theorem State.applyAlu_d : (s.applyAlu op v).d = s.d := rfl
@[simp] theorem State.applyAlu_e : (s.applyAlu op v).e = s.e := rfl
@[simp] theorem State.applyAlu_h : (s.applyAlu op v).h = s.h := rfl
@[simp] theorem State.applyAlu_l : (s.applyAlu op v).l = s.l := rfl
@[simp] theorem State.applyAlu_sp : (s.applyAlu op v).sp = s.sp := rfl
@[simp] theorem State.applyAlu_pc : (s.applyAlu op v).pc = s.pc := rfl
@[simp] theorem State.applyAlu_zf : (s.applyAlu op v).zf = (alu8 op s.a v s.cf).2.1 := rfl
@[simp] theorem State.applyAlu_cf : (s.applyAlu op v).cf = (alu8 op s.a v s.cf).2.2 := rfl
@[simp] theorem State.applyAlu_ime : (s.applyAlu op v).ime = s.ime := rfl
@[simp] theorem State.applyAlu_mem : (s.applyAlu op v).mem = s.mem := rfl
@[simp] theorem State.applyAlu_accessors : (s.applyAlu op v).accessors = s.accessors := rfl
@[simp] theorem State.applyAlu_dispatch : (s.applyAlu op v).dispatch = s.dispatch := rfl
@[simp] theorem State.applyAlu_cycles : (s.applyAlu op v).cycles = s.cycles := rfl
@[simp] theorem State.applyAlu_outcome : (s.applyAlu op v).outcome = s.outcome := rfl
@[simp] theorem State.applyAlu_config : (s.applyAlu op v).config = s.config := rfl
@[simp] theorem State.applyAlu_bus : (s.applyAlu op v).bus = s.bus := rfl
end

section
variable (s : State)
@[simp] theorem State.beginStep_a : (s.beginStep).a = s.a := rfl
@[simp] theorem State.beginStep_b : (s.beginStep).b = s.b := rfl
@[simp] theorem State.beginStep_c : (s.beginStep).c = s.c := rfl
@[simp] theorem State.beginStep_d : (s.beginStep).d = s.d := rfl
@[simp] theorem State.beginStep_e : (s.beginStep).e = s.e := rfl
@[simp] theorem State.beginStep_h : (s.beginStep).h = s.h := rfl
@[simp] theorem State.beginStep_l : (s.beginStep).l = s.l := rfl
@[simp] theorem State.beginStep_sp : (s.beginStep).sp = s.sp := rfl
@[simp] theorem State.beginStep_pc : (s.beginStep).pc = s.pc := rfl
@[simp] theorem State.beginStep_zf : (s.beginStep).zf = s.zf := rfl
@[simp] theorem State.beginStep_cf : (s.beginStep).cf = s.cf := rfl
@[simp] theorem State.beginStep_ime : (s.beginStep).ime = s.ime := rfl
@[simp] theorem State.beginStep_mem : (s.beginStep).mem = s.mem := rfl
@[simp] theorem State.beginStep_accessors : (s.beginStep).accessors = s.accessors := rfl
@[simp] theorem State.beginStep_dispatch : (s.beginStep).dispatch = .primaryFetch := rfl
@[simp] theorem State.beginStep_cycles : (s.beginStep).cycles = s.cycles := rfl
@[simp] theorem State.beginStep_outcome : (s.beginStep).outcome = s.outcome := rfl
@[simp] theorem State.beginStep_config : (s.beginStep).config = s.config := rfl
@[simp] theorem State.beginStep_bus : (s.beginStep).bus = [] := rfl
end

section
variable (s : State) (handler : Word)
@[simp] theorem State.enterHandler_a : (s.enterHandler handler).a = s.a := rfl
@[simp] theorem State.enterHandler_b : (s.enterHandler handler).b = s.b := rfl
@[simp] theorem State.enterHandler_c : (s.enterHandler handler).c = s.c := rfl
@[simp] theorem State.enterHandler_d : (s.enterHandler handler).d = s.d := rfl
@[simp] theorem State.enterHandler_e : (s.enterHandler handler).e = s.e := rfl
@[simp] theorem State.enterHandler_h : (s.enterHandler handler).h = s.h := rfl
@[simp] theorem State.enterHandler_l : (s.enterHandler handler).l = s.l := rfl
@[simp] theorem State.enterHandler_sp : (s.enterHandler handler).sp = s.sp - 2 := rfl
@[simp] theorem State.enterHandler_pc : (s.enterHandler handler).pc = handler := rfl
@[simp] theorem State.enterHandler_zf : (s.enterHandler handler).zf = s.zf := rfl
@[simp] theorem State.enterHandler_cf : (s.enterHandler handler).cf = s.cf := rfl
@[simp] theorem State.enterHandler_ime : (s.enterHandler handler).ime = s.ime := rfl
@[simp] theorem State.enterHandler_mem : (s.enterHandler handler).mem = (s.accessors.afterWrite (s.sp - 2) (loByte s.pc)).cellsAfterWrite (s.accessors.cellsAfterWrite s.mem (s.sp - 2) (loByte s.pc)) ((s.sp - 2) + 1) (hiByte s.pc) := rfl
@[simp] theorem State.enterHandler_accessors : (s.enterHandler handler).accessors = (s.accessors.afterWrite (s.sp - 2) (loByte s.pc)).afterWrite ((s.sp - 2) + 1) (hiByte s.pc) := rfl
@[simp] theorem State.enterHandler_dispatch : (s.enterHandler handler).dispatch = s.dispatch := rfl
@[simp] theorem State.enterHandler_cycles : (s.enterHandler handler).cycles = s.cycles := rfl
@[simp] theorem State.enterHandler_outcome : (s.enterHandler handler).outcome = s.outcome := rfl
@[simp] theorem State.enterHandler_config : (s.enterHandler handler).config = s.config := rfl
@[simp] theorem State.enterHandler_bus : (s.enterHandler handler).bus = s.bus := rfl
end

section
variable (s : State) (nbits w : Nat)
@[simp] theorem State.placeWord_a : (s.placeWord nbits w).a = s.a := rfl
@[simp] theorem State.placeWord_b : (s.placeWord nbits w).b = s.b := rfl
@[simp] theorem State.placeWord_c : (s.placeWord nbits w).c = s.c := rfl
@[simp] theorem State.placeWord_d : (s.placeWord nbits w).d = s.d := rfl
@[simp] theorem State.placeWord_e : (s.placeWord nbits w).e = s.e := rfl
@[simp] theorem State.placeWord_h : (s.placeWord nbits w).h = s.h := rfl
@[simp] theorem State.placeWord_l : (s.placeWord nbits w).l = s.l := rfl
@[simp] theorem State.placeWord_sp : (s.placeWord nbits w).sp = s.sp := rfl
@[simp] theorem State.placeWord_pc : (s.placeWord nbits w).pc = s.pc := rfl
@[simp] theorem State.placeWord_zf : (s.placeWord nbits w).zf = s.zf := rfl
@[simp] theorem State.placeWord_cf : (s.placeWord nbits w).cf = s.cf := rfl
@[simp] theorem State.placeWord_ime : (s.placeWord nbits w).ime = s.ime := rfl
@[simp] theorem State.placeWord_mem : (s.placeWord nbits w).mem = s.mem.writeBytes s.pc (tableBytes nbits w) := rfl
@[simp] theorem State.placeWord_accessors : (s.placeWord nbits w).accessors = .plainRam := rfl
@[simp] theorem State.placeWord_dispatch : (s.placeWord nbits w).dispatch = s.dispatch := rfl
@[simp] theorem State.placeWord_cycles : (s.placeWord nbits w).cycles = s.cycles := rfl
@[simp] theorem State.placeWord_outcome : (s.placeWord nbits w).outcome = s.outcome := rfl
@[simp] theorem State.placeWord_config : (s.placeWord nbits w).config = s.config := rfl
@[simp] theorem State.placeWord_bus : (s.placeWord nbits w).bus = s.bus := rfl
end

section
variable (s : State) (addr : Word)
@[simp] theorem State.inspectByte_snd_a : ((s.inspectByte addr).2).a = s.a := rfl
@[simp] theorem State.inspectByte_snd_b : ((s.inspectByte addr).2).b = s.b := rfl
@[simp] theorem State.inspectByte_snd_c : ((s.inspectByte addr).2).c = s.c := rfl
@[simp] theorem State.inspectByte_snd_d : ((s.inspectByte addr).2).d = s.d := rfl
@[simp] theorem State.inspectByte_snd_e : ((s.inspectByte addr).2).e = s.e := rfl
@[simp] theorem State.inspectByte_snd_h : ((s.inspectByte addr).2).h = s.h := rfl
@[simp] theorem State.inspectByte_snd_l : ((s.inspectByte addr).2).l = s.l := rfl
@[simp] theorem State.inspectByte_snd_sp : ((s.inspectByte addr).2).sp = s.sp := rfl
@[simp] theorem State.inspectByte_snd_pc : ((s.inspectByte addr).2).pc = s.pc := rfl
@[simp] theorem State.inspectByte_snd_zf : ((s.inspectByte addr).2).zf = s.zf := rfl
@[simp] theorem State.inspectByte_snd_cf : ((s.inspectByte addr).2).cf = s.cf := rfl
@[simp] theorem State.inspectByte_snd_ime : ((s.inspectByte addr).2).ime = s.ime := rfl
@[simp] theorem State.inspectByte_snd_mem : ((s.inspectByte addr).2).mem = s.mem := rfl
@[simp] theorem State.inspectByte_snd_accessors : ((s.inspectByte addr).2).accessors = s.accessors.afterRead addr := rfl
@[simp] theorem State.inspectByte_snd_dispatch : ((s.inspectByte addr).2).dispatch = s.dispatch := rfl
@[simp] theorem State.inspectByte_snd_cycles : ((s.inspectByte addr).2).cycles = s.cycles := rfl
@[simp] theorem State.inspectByte_snd_outcome : ((s.inspectByte addr).2).outcome = s.outcome := rfl
@[simp] theorem State.inspectByte_snd_config : ((s.inspectByte addr).2).config = s.config := rfl
@[simp] theorem State.inspectByte_snd_bus : ((s.inspectByte addr).2).bus = s.bus := rfl
end

section
variable (s : State) (addr : Word) (v : Byte)
@[simp] theorem State.pokeByte_a : (s.pokeByte addr v).a = s.a := rfl
@[simp] theorem State.pokeByte_b : (s.pokeByte addr v).b = s.b := rfl
@[simp] theorem State.pokeByte_c : (s.pokeByte addr v).c = s.c := rfl
@[simp] theorem State.pokeByte_d : (s.pokeByte addr v).d = s.d := rfl
@[simp] theorem State.pokeByte_e : (s.pokeByte addr v).e = s.e := rfl
@[simp] theorem State.pokeByte_h : (s.pokeByte addr v).h = s.h := rfl
@[simp] theorem State.pokeByte_l : (s.pokeByte addr v).l = s.l := rfl
@[simp] theorem State.pokeByte_sp : (s.pokeByte addr v).sp = s.sp := rfl
@[simp] theorem State.pokeByte_pc : (s.pokeByte addr v).pc = s.pc := rfl
@[simp] theorem State.pokeByte_zf : (s.pokeByte addr v).zf = s.zf := rfl
@[simp] theorem State.pokeByte_cf : (s.pokeByte addr v).cf = s.cf := rfl
@[simp] theorem State.pokeByte_ime : (s.pokeByte addr v).ime = s.ime := rfl
@[simp] theorem State.pokeByte_mem : (s.pokeByte addr v).mem = s.accessors.cellsAfterWrite s.mem addr v := rfl
@[simp] theorem State.pokeByte_accessors : (s.pokeByte addr v).accessors = s.accessors.afterWrite addr v := rfl
@[simp] theorem State.pokeByte_dispatch : (s.pokeByte addr v).dispatch = s.dispatch := rfl
@[simp] theorem State.pokeByte_cycles : (s.pokeByte addr v).cycles = s.cycles := rfl
@[simp] theorem State.pokeByte_outcome : (s.pokeByte addr v).outcome = s.outcome := rfl
@[simp] theorem State.pokeByte_config : (s.pokeByte addr v).config = s.config := rfl
@[simp] theorem State.pokeByte_bus : (s.pokeByte addr v).bus = s.bus := rfl
end

section
variable (s : State) (k : Nat)
@[simp] theorem State.collaboratorActs_a : (s.collaboratorActs k).a = s.a := rfl
@[simp] theorem State.collaboratorActs_b : (s.collaboratorActs k).b = s.b := rfl
@[simp] theorem State.collaboratorActs_c : (s.collaboratorActs k).c = s.c := rfl
@[simp] theorem State.collaboratorActs_d : (s.collaboratorActs k).d = s.d := rfl
@[simp] theorem State.collaboratorActs_e : (s.collaboratorActs k).e = s.e := rfl
@[simp] theorem State.collaboratorActs_h : (s.collaboratorActs k).h = s.h := rfl
@[simp] theorem State.collaboratorActs_l : (s.collaboratorActs k).l = s.l := rfl
@[simp] theorem State.collaboratorActs_sp : (s.collaboratorActs k).sp = s.sp := rfl
@[simp] theorem State.collaboratorActs_pc : (s.collaboratorActs k).pc = s.pc := rfl
@[simp] theorem State.collaboratorActs_zf : (s.collaboratorActs k).zf = s.zf := rfl
@[simp] theorem State.collaboratorActs_cf : (s.collaboratorActs k).cf = s.cf := rfl
@[simp] theorem State.collaboratorActs_ime : (s.collaboratorActs k).ime = s.ime := rfl
@[simp] theorem State.collaboratorActs_mem : (s.collaboratorActs k).mem = s.mem := rfl
@[simp] theorem State.collaboratorActs_dispatch : (s.collaboratorActs k).dispatch = s.dispatch := rfl
@[simp] theorem State.collaboratorActs_cycles : (s.collaboratorActs k).cycles = s.cycles := rfl
@[simp] theorem State.collaboratorActs_outcome : (s.collaboratorActs k).outcome = s.outcome := rfl
@[simp] theorem State.collaboratorActs_config : (s.collaboratorActs k).config = s.config := rfl
@[simp] theorem State.collaboratorActs_bus : (s.collaboratorActs k).bus = s.bus := rfl
end

/-- The values the reading operations answer. -/
@[simp] theorem State.readByte_fst (s : State) (addr : Word) : (s.readByte addr).1 = s.peek addr := rfl

@[simp] theorem State.readWord_fst (s : State) (addr : Word) :
    (s.readWord addr).1 = joinBytes ((s.afterRead addr).peek (addr + 1)) (s.peek addr) := rfl

@[simp] theorem State.pop16_fst (s : State) :
    s.pop16.1 = joinBytes ((s.afterRead s.sp).peek (s.sp + 1)) (s.peek s.sp) := rfl

@[simp] theorem State.leaveHandler_fst (s : State) :
    s.leaveHandler.1 = joinBytes ((s.afterRead s.sp).peek (s.sp + 1)) (s.peek s.sp) := rfl

@[simp] theorem State.inspectByte_fst (s : State) (addr : Word) : (s.inspectByte addr).1 = s.peek addr := rfl

/-- Reading depends on the memory and the accessors alone. -/
theorem State.peek_congr {s t : State} (hm : t.mem = s.mem) (ha : t.accessors = s.accessors) (addr : Word) :
    t.peek addr = s.peek addr := by
  rw [State.peek, State.peek, hm, ha]

/-- The default BUS: what each of its accessors does. -/
@[simp] theorem Bus.byteAt_plainRam (m : Memory) (addr : Word) : Bus.plainRam.byteAt m addr = m.read addr.toNat := rfl

@[simp] theorem Bus.afterRead_plainRam (addr : Word) : Bus.plainRam.afterRead addr = .plainRam := rfl

@[simp] theorem Bus.afterWrite_plainRam (addr : Word) (v : Byte) : Bus.plainRam.afterWrite addr v = .plainRam := rfl

@[simp] theorem Bus.cellsAfterWrite_plainRam (m : Memory) (addr : Word) (v : Byte) :
    Bus.plainRam.cellsAfterWrite m addr v = m.write addr.toNat v := rfl

/-- A collaborator's BUS: what each of its accessors does. -/
@[simp] theorem Bus.byteAt_collaborator (k : Nat) (m : Memory) (addr : Word) :
    (Bus.collaborator k).byteAt m addr = (Config.collaboratorRead k addr).1 := rfl

@[simp] theorem Bus.afterRead_collaborator (k : Nat) (addr : Word) :
    (Bus.collaborator k).afterRead addr = .collaborator (Config.collaboratorRead k addr).2 := rfl

@[simp] theorem Bus.afterWrite_collaborator (k : Nat) (addr : Word) (v : Byte) :
    (Bus.collaborator k).afterWrite addr v = .collaborator (Config.collaboratorWrite k addr v) := rfl

@[simp] theorem Bus.cellsAfterWrite_collaborator (k : Nat) (m : Memory) (addr : Word) (v : Byte) :
    (Bus.collaborator k).cellsAfterWrite m addr v = m := rfl

/-- No access exchanges the default BUS for a collaborator's, or the other way. -/
@[simp] theorem Bus.afterRead_eq_plainRam {b : Bus} {addr : Word} : b.afterRead addr = .plainRam ↔ b = .plainRam := by
  cases b <;> simp

@[simp] theorem Bus.afterWrite_eq_plainRam {b : Bus} {addr : Word} {v : Byte} :
    b.afterWrite addr v = .plainRam ↔ b = .plainRam := by
  cases b <;> simp

/-- With the default BUS the byte at an address is the cell's, and a read has no side effect (20_memory.md R58). -/
theorem State.peek_plainRam {s : State} (h : s.accessors = .plainRam) (addr : Word) : s.peek addr = s.mem.read addr.toNat := by
  rw [State.peek, h, Bus.byteAt_plainRam]

theorem State.afterRead_plainRam {s : State} (h : s.accessors = .plainRam) (addr : Word) : s.afterRead addr = s := by
  cases s
  cases h
  rfl

/-- A register write is read back, and leaves the other registers (10_state.md R21). -/
@[simp] theorem State.getR8_setR8_same (s : State) (r : R8) (v : Byte) : (s.setR8 r v).getR8 r = v := by
  cases r <;> rfl

theorem State.getR8_setR8_other (s : State) {r q : R8} (v : Byte) (h : q ≠ r) :
    (s.setR8 r v).getR8 q = s.getR8 q := by
  cases r <;> cases q <;> first | rfl | exact absurd rfl h

/-- The halves of a joined word. -/
@[simp] theorem hiByte_joinBytes (hi lo : Byte) : hiByte (joinBytes hi lo) = hi := by
  apply BitVec.eq_of_getLsbD_eq
  intro i hi'
  simp only [hiByte, joinBytes, BitVec.getLsbD_extractLsb', BitVec.getLsbD_append]
  simp [hi']

@[simp] theorem loByte_joinBytes (hi lo : Byte) : loByte (joinBytes hi lo) = lo := by
  apply BitVec.eq_of_getLsbD_eq
  intro i hi'
  simp only [loByte, joinBytes, BitVec.getLsbD_extractLsb', BitVec.getLsbD_append]
  simp [hi']

/-- A word is its two halves joined. -/
@[simp] theorem joinBytes_halves (v : Word) : joinBytes (hiByte v) (loByte v) = v := by
  apply BitVec.eq_of_getLsbD_eq
  intro i hi'
  simp only [hiByte, loByte, joinBytes, BitVec.getLsbD_extractLsb', BitVec.getLsbD_append]
  by_cases h : i < 8
  · simp [h]
  · have h8 : i - 8 < 8 := by omega
    have h16 : 8 + (i - 8) = i := by omega
    simp [h, h8, h16]

/-- `hi*256 + lo` (00_scope.md R9). -/
theorem joinBytes_toNat (hi lo : Byte) : (joinBytes hi lo).toNat = hi.toNat * 256 + lo.toNat := by
  have := lo.isLt
  rw [joinBytes, BitVec.toNat_append, ← Nat.shiftLeft_add_eq_or_of_lt (by simpa using this), Nat.shiftLeft_eq]

/-- The two halves of a pair agree with the pair (10_state.md R23). -/
@[simp] theorem State.getPair_setPair_same (s : State) (q : Pair) (v : Word) : (s.setPair q v).getPair q = v := by
  cases q <;> simp [State.setPair, State.getPair, State.bc, State.de, State.hl]

@[simp] theorem State.getR16_setR16_same (s : State) (ss : R16) (v : Word) : (s.setR16 ss v).getR16 ss = v := by
  cases ss <;> simp [State.setR16, State.setPair, State.getR16, State.bc, State.de, State.hl]

/-- The ripple of the two halves is the 16-bit increment (42_alu16.md R191). -/
theorem rippleInc_eq (v : Word) : rippleInc v = v + 1 := by
  obtain ⟨hi, lo, rfl⟩ : ∃ hi lo, v = joinBytes hi lo := ⟨hiByte v, loByte v, (joinBytes_halves v).symm⟩
  have hl := lo.isLt
  have hh := hi.isLt
  apply BitVec.eq_of_toNat_eq
  simp only [rippleInc, loByte_joinBytes, hiByte_joinBytes, joinBytes_toNat, BitVec.toNat_add]
  by_cases h : lo = 0xFF
  · subst h
    simp [bitByte]
    omega
  · have hn : lo.toNat ≠ 255 := fun e => h (BitVec.eq_of_toNat_eq e)
    have h0 : ¬ lo + 1#8 = 0#8 := by
      intro e
      have := congrArg BitVec.toNat e
      simp only [BitVec.toNat_add] at this
      simp at this
      omega
    simp [bitByte, h0]
    omega

/-- The ripple of the two halves is the 16-bit decrement (42_alu16.md R192). -/
theorem rippleDec_eq (v : Word) : rippleDec v = v - 1 := by
  obtain ⟨hi, lo, rfl⟩ : ∃ hi lo, v = joinBytes hi lo := ⟨hiByte v, loByte v, (joinBytes_halves v).symm⟩
  have hl := lo.isLt
  have hh := hi.isLt
  apply BitVec.eq_of_toNat_eq
  simp only [rippleDec, loByte_joinBytes, hiByte_joinBytes, joinBytes_toNat, BitVec.toNat_sub]
  by_cases h : lo = 0
  · subst h
    simp [bitByte]
    omega
  · have hn : lo.toNat ≠ 0 := fun e => h (BitVec.eq_of_toNat_eq e)
    have h0 : ¬ lo - 1#8 = 255#8 := by
      intro e
      have := congrArg BitVec.toNat e
      simp only [BitVec.toNat_sub] at this
      simp at this
      omega
    simp [bitByte, h0]
    omega

end Sys2Proof.Machine
end

