-- ==== Sys2Proof/Laws/Decode.lean ====
section
/-! SUPPORT. decode by the format of the first byte's entry: what a proof about decoding cites instead of unfolding decode. -/

namespace Sys2Proof

theorem decode_p1 {b0 : Byte} {i : Instr} (h : primary b0 = .p1 i) (rest : List Byte) :
    decode (b0 :: rest) = .ok (i, rest) := by
  simp [decode, decode3, lengthOf, h, Entry.length, Entry.instr]

theorem decode_p2 {b0 : Byte} {k : Byte → Instr} (h : primary b0 = .p2 k) (n : Byte) (rest : List Byte) :
    decode (b0 :: n :: rest) = .ok (k n, rest) := by
  simp [decode, decode3, lengthOf, h, Entry.length, Entry.instr]

theorem decode_p3 {b0 : Byte} {k : Word → Instr} (h : primary b0 = .p3 k) (lo hi : Byte) (rest : List Byte) :
    decode (b0 :: lo :: hi :: rest) = .ok (k (joinBytes hi lo), rest) := by
  simp [decode, decode3, lengthOf, h, Entry.length, Entry.instr]

theorem decode_secondary {b0 : Byte} (h : primary b0 = .cb) (op2 : Byte) (rest : List Byte) :
    decode (b0 :: op2 :: rest) = .ok (secondary op2, rest) := by
  simp [decode, decode3, lengthOf, h, Entry.length, Entry.instr]

theorem decode_cb (op2 : Byte) (rest : List Byte) : decode (0xCB :: op2 :: rest) = .ok (secondary op2, rest) :=
  decode_secondary rfl op2 rest

/-- An entry takes one, two or three bytes (30_encoding.md R80). -/
theorem lengthOf_le (b0 : Byte) : 1 ≤ lengthOf b0 ∧ lengthOf b0 ≤ 3 := by
  unfold lengthOf
  cases primary b0 <;> simp [Entry.length]

/-- What holds of the 256 byte literals holds of every byte. -/
theorem Byte.forall_of_lt {p : Byte → Prop} (h : ∀ n < 256, p (BitVec.ofNat 8 n)) (b : Byte) : p b := by
  have := h b.toNat b.isLt
  simpa using this

/-- The byte b0 is the first byte of the encoding of whatever its entry names. -/
def Entry.Encodes (b0 : Byte) : Entry → Prop
  | .p1 i => encode i = [b0]
  | .p2 k => ∀ n, encode (k n) = [b0, n]
  | .p3 k => ∀ n, encode (k n) = [b0, loByte n, hiByte n]
  | .cb => b0 = 0xCB

/-- The primary table and the encoder agree, entry by entry. -/
theorem primary_encodes : ∀ b0 : Byte, (primary b0).Encodes b0 := by
  apply Byte.forall_of_lt
  intro n hn
  interval_cases n <;> first | exact Eq.refl _ | (intro n; exact Eq.refl _)

/-- The secondary table and the encoder agree, entry by entry. -/
theorem encode_secondary : ∀ op2 : Byte, encode (secondary op2) = [0xCB, op2] := by
  apply Byte.forall_of_lt
  intro n hn
  interval_cases n <;> exact Eq.refl _

end Sys2Proof
end

