-- ==== Sys2Proof/Laws/Dispatch.lean ====
section
/-! SUPPORT. exec by families: for each family of constructors (Sys2Proof/Syntax.lean) the one shared operation it runs, and a
`Shape` for each shared operation, so that a proof about every instruction has one case per operation and not 511. -/

namespace Sys2Proof.Machine

@[simp] theorem exec_ofLdR8R8 (dst r : R8) (s : State) : exec (.ofLdR8R8 dst r) s = ldR8R8 dst r s := by
  cases dst <;> cases r <;> rfl

@[simp] theorem exec_ofLdR8N8 (dst : R8) (n : Byte) (s : State) : exec (.ofLdR8N8 dst n) s = ldR8N8 dst n s := by
  cases dst <;> rfl

@[simp] theorem exec_ofLdR8AtHl (dst : R8) (s : State) : exec (.ofLdR8AtHl dst) s = ldR8AtHl dst s := by
  cases dst <;> rfl

@[simp] theorem exec_ofLdAtHlR8 (r : R8) (s : State) : exec (.ofLdAtHlR8 r) s = ldAtHlR8 r s := by
  cases r <;> rfl

@[simp] theorem exec_ofIncR8 (r : R8) (s : State) : exec (.ofIncR8 r) s = incR8 r s := by
  cases r <;> rfl

@[simp] theorem exec_ofDecR8 (r : R8) (s : State) : exec (.ofDecR8 r) s = decR8 r s := by
  cases r <;> rfl

@[simp] theorem exec_ofAluR8 (op : AluOp) (r : R8) (s : State) : exec (.ofAluR8 op r) s = aluR8 op r s := by
  cases op <;> cases r <;> rfl

@[simp] theorem exec_ofAluAtHl (op : AluOp) (s : State) : exec (.ofAluAtHl op) s = aluMem op s := by
  cases op <;> rfl

@[simp] theorem exec_ofAluN8 (op : AluOp) (n : Byte) (s : State) : exec (.ofAluN8 op n) s = aluImm op n s := by
  cases op <;> rfl

@[simp] theorem exec_ofLdR16N16 (ss : R16) (n : Word) (s : State) : exec (.ofLdR16N16 ss n) s = ldR16N16 ss n s := by
  cases ss <;> rfl

@[simp] theorem exec_ofIncR16 (ss : R16) (s : State) : exec (.ofIncR16 ss) s = incR16 ss s := by
  cases ss <;> rfl

@[simp] theorem exec_ofDecR16 (ss : R16) (s : State) : exec (.ofDecR16 ss) s = decR16 ss s := by
  cases ss <;> rfl

@[simp] theorem exec_ofAddHlR16 (ss : R16) (s : State) : exec (.ofAddHlR16 ss) s = addHlR16 ss s := by
  cases ss <;> rfl

@[simp] theorem exec_ofPushPair (q : Pair) (s : State) : exec (.ofPushPair q) s = pushPair q s := by
  cases q <;> rfl

@[simp] theorem exec_ofPopPair (q : Pair) (s : State) : exec (.ofPopPair q) s = popPair q s := by
  cases q <;> rfl

@[simp] theorem exec_ofJrCc (cc : Cond) (e : Byte) (s : State) : exec (.ofJrCc cc e) s = jumpRelativeIf cc e s := by
  cases cc <;> rfl

@[simp] theorem exec_ofJpCc (cc : Cond) (n : Word) (s : State) : exec (.ofJpCc cc n) s = jumpAbsoluteIf cc n s := by
  cases cc <;> rfl

@[simp] theorem exec_ofCallCc (cc : Cond) (n : Word) (s : State) : exec (.ofCallCc cc n) s = callAddrIf cc n s := by
  cases cc <;> rfl

@[simp] theorem exec_ofRetCc (cc : Cond) (s : State) : exec (.ofRetCc cc) s = returnIf cc s := by
  cases cc <;> rfl

@[simp] theorem exec_ofRst (t : Fin 8) (s : State) : exec (.ofRst t) s = restart t s := by
  fin_cases t <;> rfl

@[simp] theorem exec_ofShiftR8 (op : ShiftOp) (r : R8) (s : State) : exec (.ofShiftR8 op r) s = shiftR8 op r s := by
  cases op <;> cases r <;> rfl

@[simp] theorem exec_ofShiftAtHl (op : ShiftOp) (s : State) : exec (.ofShiftAtHl op) s = shiftMem op s := by
  cases op <;> rfl

@[simp] theorem exec_ofBitR8 (n : Fin 8) (r : R8) (s : State) : exec (.ofBitR8 n r) s = bitR8 n r s := by
  fin_cases n <;> cases r <;> rfl

@[simp] theorem exec_ofBitAtHl (n : Fin 8) (s : State) : exec (.ofBitAtHl n) s = bitMem n s := by
  fin_cases n <;> rfl

@[simp] theorem exec_ofResR8 (n : Fin 8) (r : R8) (s : State) : exec (.ofResR8 n r) s = resR8 n r s := by
  fin_cases n <;> cases r <;> rfl

@[simp] theorem exec_ofResAtHl (n : Fin 8) (s : State) : exec (.ofResAtHl n) s = resMem n s := by
  fin_cases n <;> rfl

@[simp] theorem exec_ofSetR8 (n : Fin 8) (r : R8) (s : State) : exec (.ofSetR8 n r) s = setR8Bit n r s := by
  fin_cases n <;> cases r <;> rfl

@[simp] theorem exec_ofSetAtHl (n : Fin 8) (s : State) : exec (.ofSetAtHl n) s = setMem n s := by
  fin_cases n <;> rfl

/-- The shared operations the meanings run, with their operands. -/
inductive Shape where
  | noOperation
  | ldR16N16 (ss : R16) (n : Word)
  | ldAtPairAcc (q : Pair)
  | incR16 (ss : R16)
  | incR8 (r : R8)
  | decR8 (r : R8)
  | ldR8N8 (dst : R8) (n : Byte)
  | rotateAcc (op : ShiftOp)
  | ldAtAddrSp (n : Word)
  | addHlR16 (ss : R16)
  | ldAccAtPair (q : Pair)
  | decR16 (ss : R16)
  | stopCore
  | jumpRelative (e : Byte)
  | jumpRelativeIf (cc : Cond) (e : Byte)
  | ldAtHlStepAcc (by_ : Word)
  | raiseUnimplemented (opcode : Byte) (prefixed : Bool)
  | ldAccAtHlStep (by_ : Word)
  | complementAcc
  | incMem
  | decMem
  | ldAtHlImm (n : Byte)
  | setCarry
  | complementCarry
  | ldR8R8 (dst r : R8)
  | ldR8AtHl (dst : R8)
  | ldAtHlR8 (r : R8)
  | haltCore
  | aluR8 (op : AluOp) (r : R8)
  | aluMem (op : AluOp)
  | returnIf (cc : Cond)
  | popPair (q : Pair)
  | jumpAbsoluteIf (cc : Cond) (n : Word)
  | jumpAbsolute (n : Word)
  | callAddrIf (cc : Cond) (n : Word)
  | pushPair (q : Pair)
  | aluImm (op : AluOp) (n : Byte)
  | restart (t : Fin 8)
  | returnAlways
  | callAddr (n : Word)
  | returnEnabling
  | ldAtPageAcc (n : Byte)
  | ldAtPageCAcc
  | addSpImm (e : Byte)
  | jumpToHl
  | ldAtAddrAcc (n : Word)
  | ldAccAtPage (n : Byte)
  | popAcc
  | ldAccAtPageC
  | setInterruptEnable (v : Bool)
  | pushAcc
  | ldHlSpImm (e : Byte)
  | ldStackHl
  | ldAccAtAddr (n : Word)
  | shiftR8 (op : ShiftOp) (r : R8)
  | shiftMem (op : ShiftOp)
  | bitR8 (n : Fin 8) (r : R8)
  | bitMem (n : Fin 8)
  | resR8 (n : Fin 8) (r : R8)
  | resMem (n : Fin 8)
  | setR8Bit (n : Fin 8) (r : R8)
  | setMem (n : Fin 8)

/-- What a shape does. -/
def Shape.run (p : Shape) (s : State) : Result :=
  match p with
  | .noOperation => Sys2Proof.Machine.noOperation s
  | .ldR16N16 ss n => Sys2Proof.Machine.ldR16N16 ss n s
  | .ldAtPairAcc q => Sys2Proof.Machine.ldAtPairAcc q s
  | .incR16 ss => Sys2Proof.Machine.incR16 ss s
  | .incR8 r => Sys2Proof.Machine.incR8 r s
  | .decR8 r => Sys2Proof.Machine.decR8 r s
  | .ldR8N8 dst n => Sys2Proof.Machine.ldR8N8 dst n s
  | .rotateAcc op => Sys2Proof.Machine.rotateAcc op s
  | .ldAtAddrSp n => Sys2Proof.Machine.ldAtAddrSp n s
  | .addHlR16 ss => Sys2Proof.Machine.addHlR16 ss s
  | .ldAccAtPair q => Sys2Proof.Machine.ldAccAtPair q s
  | .decR16 ss => Sys2Proof.Machine.decR16 ss s
  | .stopCore => Sys2Proof.Machine.stopCore s
  | .jumpRelative e => Sys2Proof.Machine.jumpRelative e s
  | .jumpRelativeIf cc e => Sys2Proof.Machine.jumpRelativeIf cc e s
  | .ldAtHlStepAcc by_ => Sys2Proof.Machine.ldAtHlStepAcc by_ s
  | .raiseUnimplemented opcode prefixed => Sys2Proof.Machine.raiseUnimplemented opcode prefixed s
  | .ldAccAtHlStep by_ => Sys2Proof.Machine.ldAccAtHlStep by_ s
  | .complementAcc => Sys2Proof.Machine.complementAcc s
  | .incMem => Sys2Proof.Machine.incMem s
  | .decMem => Sys2Proof.Machine.decMem s
  | .ldAtHlImm n => Sys2Proof.Machine.ldAtHlImm n s
  | .setCarry => Sys2Proof.Machine.setCarry s
  | .complementCarry => Sys2Proof.Machine.complementCarry s
  | .ldR8R8 dst r => Sys2Proof.Machine.ldR8R8 dst r s
  | .ldR8AtHl dst => Sys2Proof.Machine.ldR8AtHl dst s
  | .ldAtHlR8 r => Sys2Proof.Machine.ldAtHlR8 r s
  | .haltCore => Sys2Proof.Machine.haltCore s
  | .aluR8 op r => Sys2Proof.Machine.aluR8 op r s
  | .aluMem op => Sys2Proof.Machine.aluMem op s
  | .returnIf cc => Sys2Proof.Machine.returnIf cc s
  | .popPair q => Sys2Proof.Machine.popPair q s
  | .jumpAbsoluteIf cc n => Sys2Proof.Machine.jumpAbsoluteIf cc n s
  | .jumpAbsolute n => Sys2Proof.Machine.jumpAbsolute n s
  | .callAddrIf cc n => Sys2Proof.Machine.callAddrIf cc n s
  | .pushPair q => Sys2Proof.Machine.pushPair q s
  | .aluImm op n => Sys2Proof.Machine.aluImm op n s
  | .restart t => Sys2Proof.Machine.restart t s
  | .returnAlways => Sys2Proof.Machine.returnAlways s
  | .callAddr n => Sys2Proof.Machine.callAddr n s
  | .returnEnabling => Sys2Proof.Machine.returnEnabling s
  | .ldAtPageAcc n => Sys2Proof.Machine.ldAtPageAcc n s
  | .ldAtPageCAcc => Sys2Proof.Machine.ldAtPageCAcc s
  | .addSpImm e => Sys2Proof.Machine.addSpImm e s
  | .jumpToHl => Sys2Proof.Machine.jumpToHl s
  | .ldAtAddrAcc n => Sys2Proof.Machine.ldAtAddrAcc n s
  | .ldAccAtPage n => Sys2Proof.Machine.ldAccAtPage n s
  | .popAcc => Sys2Proof.Machine.popAcc s
  | .ldAccAtPageC => Sys2Proof.Machine.ldAccAtPageC s
  | .setInterruptEnable v => Sys2Proof.Machine.setInterruptEnable v s
  | .pushAcc => Sys2Proof.Machine.pushAcc s
  | .ldHlSpImm e => Sys2Proof.Machine.ldHlSpImm e s
  | .ldStackHl => Sys2Proof.Machine.ldStackHl s
  | .ldAccAtAddr n => Sys2Proof.Machine.ldAccAtAddr n s
  | .shiftR8 op r => Sys2Proof.Machine.shiftR8 op r s
  | .shiftMem op => Sys2Proof.Machine.shiftMem op s
  | .bitR8 n r => Sys2Proof.Machine.bitR8 n r s
  | .bitMem n => Sys2Proof.Machine.bitMem n s
  | .resR8 n r => Sys2Proof.Machine.resR8 n r s
  | .resMem n => Sys2Proof.Machine.resMem n s
  | .setR8Bit n r => Sys2Proof.Machine.setR8Bit n r s
  | .setMem n => Sys2Proof.Machine.setMem n s

/-- The shape of an instruction. -/
def shapeOf (i : Instr) : Shape :=
  match i with
  | .nop => .noOperation
  | .ldBcN16 n => .ldR16N16 .bc n
  | .ldAtBcA => .ldAtPairAcc .bc
  | .incBc => .incR16 .bc
  | .incB => .incR8 .b
  | .decB => .decR8 .b
  | .ldBN8 n => .ldR8N8 .b n
  | .rlca => .rotateAcc .rlc
  | .ldAtN16Sp n => .ldAtAddrSp n
  | .addHlBc => .addHlR16 .bc
  | .ldAAtBc => .ldAccAtPair .bc
  | .decBc => .decR16 .bc
  | .incC => .incR8 .c
  | .decC => .decR8 .c
  | .ldCN8 n => .ldR8N8 .c n
  | .rrca => .rotateAcc .rrc
  | .stop _ => .stopCore
  | .ldDeN16 n => .ldR16N16 .de n
  | .ldAtDeA => .ldAtPairAcc .de
  | .incDe => .incR16 .de
  | .incD => .incR8 .d
  | .decD => .decR8 .d
  | .ldDN8 n => .ldR8N8 .d n
  | .rla => .rotateAcc .rl
  | .jrE8 e => .jumpRelative e
  | .addHlDe => .addHlR16 .de
  | .ldAAtDe => .ldAccAtPair .de
  | .decDe => .decR16 .de
  | .incE => .incR8 .e
  | .decE => .decR8 .e
  | .ldEN8 n => .ldR8N8 .e n
  | .rra => .rotateAcc .rr
  | .jrNzE8 e => .jumpRelativeIf .nz e
  | .ldHlN16 n => .ldR16N16 .hl n
  | .ldAtHlIncA => .ldAtHlStepAcc 1
  | .incHl => .incR16 .hl
  | .incH => .incR8 .h
  | .decH => .decR8 .h
  | .ldHN8 n => .ldR8N8 .h n
  | .daa => .raiseUnimplemented 0x27 false
  | .jrZE8 e => .jumpRelativeIf .z e
  | .addHlHl => .addHlR16 .hl
  | .ldAAtHlInc => .ldAccAtHlStep 1
  | .decHl => .decR16 .hl
  | .incL => .incR8 .l
  | .decL => .decR8 .l
  | .ldLN8 n => .ldR8N8 .l n
  | .cpl => .complementAcc
  | .jrNcE8 e => .jumpRelativeIf .nc e
  | .ldSpN16 n => .ldR16N16 .sp n
  | .ldAtHlDecA => .ldAtHlStepAcc (-1)
  | .incSp => .incR16 .sp
  | .incAtHl => .incMem
  | .decAtHl => .decMem
  | .ldAtHlN8 n => .ldAtHlImm n
  | .scf => .setCarry
  | .jrCE8 e => .jumpRelativeIf .c e
  | .addHlSp => .addHlR16 .sp
  | .ldAAtHlDec => .ldAccAtHlStep (-1)
  | .decSp => .decR16 .sp
  | .incA => .incR8 .a
  | .decA => .decR8 .a
  | .ldAN8 n => .ldR8N8 .a n
  | .ccf => .complementCarry
  | .ldBB => .ldR8R8 .b .b
  | .ldBC => .ldR8R8 .b .c
  | .ldBD => .ldR8R8 .b .d
  | .ldBE => .ldR8R8 .b .e
  | .ldBH => .ldR8R8 .b .h
  | .ldBL => .ldR8R8 .b .l
  | .ldBAtHl => .ldR8AtHl .b
  | .ldBA => .ldR8R8 .b .a
  | .ldCB => .ldR8R8 .c .b
  | .ldCC => .ldR8R8 .c .c
  | .ldCD => .ldR8R8 .c .d
  | .ldCE => .ldR8R8 .c .e
  | .ldCH => .ldR8R8 .c .h
  | .ldCL => .ldR8R8 .c .l
  | .ldCAtHl => .ldR8AtHl .c
  | .ldCA => .ldR8R8 .c .a
  | .ldDB => .ldR8R8 .d .b
  | .ldDC => .ldR8R8 .d .c
  | .ldDD => .ldR8R8 .d .d
  | .ldDE => .ldR8R8 .d .e
  | .ldDH => .ldR8R8 .d .h
  | .ldDL => .ldR8R8 .d .l
  | .ldDAtHl => .ldR8AtHl .d
  | .ldDA => .ldR8R8 .d .a
  | .ldEB => .ldR8R8 .e .b
  | .ldEC => .ldR8R8 .e .c
  | .ldED => .ldR8R8 .e .d
  | .ldEE => .ldR8R8 .e .e
  | .ldEH => .ldR8R8 .e .h
  | .ldEL => .ldR8R8 .e .l
  | .ldEAtHl => .ldR8AtHl .e
  | .ldEA => .ldR8R8 .e .a
  | .ldHB => .ldR8R8 .h .b
  | .ldHC => .ldR8R8 .h .c
  | .ldHD => .ldR8R8 .h .d
  | .ldHE => .ldR8R8 .h .e
  | .ldHH => .ldR8R8 .h .h
  | .ldHL => .ldR8R8 .h .l
  | .ldHAtHl => .ldR8AtHl .h
  | .ldHA => .ldR8R8 .h .a
  | .ldLB => .ldR8R8 .l .b
  | .ldLC => .ldR8R8 .l .c
  | .ldLD => .ldR8R8 .l .d
  | .ldLE => .ldR8R8 .l .e
  | .ldLH => .ldR8R8 .l .h
  | .ldLL => .ldR8R8 .l .l
  | .ldLAtHl => .ldR8AtHl .l
  | .ldLA => .ldR8R8 .l .a
  | .ldAtHlB => .ldAtHlR8 .b
  | .ldAtHlC => .ldAtHlR8 .c
  | .ldAtHlD => .ldAtHlR8 .d
  | .ldAtHlE => .ldAtHlR8 .e
  | .ldAtHlH => .ldAtHlR8 .h
  | .ldAtHlL => .ldAtHlR8 .l
  | .halt => .haltCore
  | .ldAtHlA => .ldAtHlR8 .a
  | .ldAB => .ldR8R8 .a .b
  | .ldAC => .ldR8R8 .a .c
  | .ldAD => .ldR8R8 .a .d
  | .ldAE => .ldR8R8 .a .e
  | .ldAH => .ldR8R8 .a .h
  | .ldAL => .ldR8R8 .a .l
  | .ldAAtHl => .ldR8AtHl .a
  | .ldAA => .ldR8R8 .a .a
  | .addAB => .aluR8 .add .b
  | .addAC => .aluR8 .add .c
  | .addAD => .aluR8 .add .d
  | .addAE => .aluR8 .add .e
  | .addAH => .aluR8 .add .h
  | .addAL => .aluR8 .add .l
  | .addAAtHl => .aluMem .add
  | .addAA => .aluR8 .add .a
  | .adcAB => .aluR8 .adc .b
  | .adcAC => .aluR8 .adc .c
  | .adcAD => .aluR8 .adc .d
  | .adcAE => .aluR8 .adc .e
  | .adcAH => .aluR8 .adc .h
  | .adcAL => .aluR8 .adc .l
  | .adcAAtHl => .aluMem .adc
  | .adcAA => .aluR8 .adc .a
  | .subAB => .aluR8 .sub .b
  | .subAC => .aluR8 .sub .c
  | .subAD => .aluR8 .sub .d
  | .subAE => .aluR8 .sub .e
  | .subAH => .aluR8 .sub .h
  | .subAL => .aluR8 .sub .l
  | .subAAtHl => .aluMem .sub
  | .subAA => .aluR8 .sub .a
  | .sbcAB => .aluR8 .sbc .b
  | .sbcAC => .aluR8 .sbc .c
  | .sbcAD => .aluR8 .sbc .d
  | .sbcAE => .aluR8 .sbc .e
  | .sbcAH => .aluR8 .sbc .h
  | .sbcAL => .aluR8 .sbc .l
  | .sbcAAtHl => .aluMem .sbc
  | .sbcAA => .aluR8 .sbc .a
  | .andAB => .aluR8 .and .b
  | .andAC => .aluR8 .and .c
  | .andAD => .aluR8 .and .d
  | .andAE => .aluR8 .and .e
  | .andAH => .aluR8 .and .h
  | .andAL => .aluR8 .and .l
  | .andAAtHl => .aluMem .and
  | .andAA => .aluR8 .and .a
  | .xorAB => .aluR8 .xor .b
  | .xorAC => .aluR8 .xor .c
  | .xorAD => .aluR8 .xor .d
  | .xorAE => .aluR8 .xor .e
  | .xorAH => .aluR8 .xor .h
  | .xorAL => .aluR8 .xor .l
  | .xorAAtHl => .aluMem .xor
  | .xorAA => .aluR8 .xor .a
  | .orAB => .aluR8 .or .b
  | .orAC => .aluR8 .or .c
  | .orAD => .aluR8 .or .d
  | .orAE => .aluR8 .or .e
  | .orAH => .aluR8 .or .h
  | .orAL => .aluR8 .or .l
  | .orAAtHl => .aluMem .or
  | .orAA => .aluR8 .or .a
  | .cpAB => .aluR8 .cp .b
  | .cpAC => .aluR8 .cp .c
  | .cpAD => .aluR8 .cp .d
  | .cpAE => .aluR8 .cp .e
  | .cpAH => .aluR8 .cp .h
  | .cpAL => .aluR8 .cp .l
  | .cpAAtHl => .aluMem .cp
  | .cpAA => .aluR8 .cp .a
  | .retNz => .returnIf .nz
  | .popBc => .popPair .bc
  | .jpNzN16 n => .jumpAbsoluteIf .nz n
  | .jpN16 n => .jumpAbsolute n
  | .callNzN16 n => .callAddrIf .nz n
  | .pushBc => .pushPair .bc
  | .addAN8 n => .aluImm .add n
  | .rst00 => .restart 0
  | .retZ => .returnIf .z
  | .ret => .returnAlways
  | .jpZN16 n => .jumpAbsoluteIf .z n
  | .callZN16 n => .callAddrIf .z n
  | .callN16 n => .callAddr n
  | .adcAN8 n => .aluImm .adc n
  | .rst08 => .restart 1
  | .retNc => .returnIf .nc
  | .popDe => .popPair .de
  | .jpNcN16 n => .jumpAbsoluteIf .nc n
  | .unassignedD3 => .raiseUnimplemented 0xD3 false
  | .callNcN16 n => .callAddrIf .nc n
  | .pushDe => .pushPair .de
  | .subAN8 n => .aluImm .sub n
  | .rst10 => .restart 2
  | .retC => .returnIf .c
  | .reti => .returnEnabling
  | .jpCN16 n => .jumpAbsoluteIf .c n
  | .unassignedDB => .raiseUnimplemented 0xDB false
  | .callCN16 n => .callAddrIf .c n
  | .unassignedDD => .raiseUnimplemented 0xDD false
  | .sbcAN8 n => .aluImm .sbc n
  | .rst18 => .restart 3
  | .ldhAtN8A n => .ldAtPageAcc n
  | .popHl => .popPair .hl
  | .ldAtCA => .ldAtPageCAcc
  | .unassignedE3 => .raiseUnimplemented 0xE3 false
  | .unassignedE4 => .raiseUnimplemented 0xE4 false
  | .pushHl => .pushPair .hl
  | .andAN8 n => .aluImm .and n
  | .rst20 => .restart 4
  | .addSpE8 e => .addSpImm e
  | .jpHl => .jumpToHl
  | .ldAtN16A n => .ldAtAddrAcc n
  | .unassignedEB => .raiseUnimplemented 0xEB false
  | .unassignedEC => .raiseUnimplemented 0xEC false
  | .unassignedED => .raiseUnimplemented 0xED false
  | .xorAN8 n => .aluImm .xor n
  | .rst28 => .restart 5
  | .ldhAAtN8 n => .ldAccAtPage n
  | .popAf => .popAcc
  | .ldAAtC => .ldAccAtPageC
  | .di => .setInterruptEnable false
  | .unassignedF4 => .raiseUnimplemented 0xF4 false
  | .pushAf => .pushAcc
  | .orAN8 n => .aluImm .or n
  | .rst30 => .restart 6
  | .ldHlSpE8 e => .ldHlSpImm e
  | .ldSpHl => .ldStackHl
  | .ldAAtN16 n => .ldAccAtAddr n
  | .ei => .setInterruptEnable true
  | .unassignedFC => .raiseUnimplemented 0xFC false
  | .unassignedFD => .raiseUnimplemented 0xFD false
  | .cpAN8 n => .aluImm .cp n
  | .rst38 => .restart 7
  | .rlcB => .shiftR8 .rlc .b
  | .rlcC => .shiftR8 .rlc .c
  | .rlcD => .shiftR8 .rlc .d
  | .rlcE => .shiftR8 .rlc .e
  | .rlcH => .shiftR8 .rlc .h
  | .rlcL => .shiftR8 .rlc .l
  | .rlcAtHl => .shiftMem .rlc
  | .rlcA => .shiftR8 .rlc .a
  | .rrcB => .shiftR8 .rrc .b
  | .rrcC => .shiftR8 .rrc .c
  | .rrcD => .shiftR8 .rrc .d
  | .rrcE => .shiftR8 .rrc .e
  | .rrcH => .shiftR8 .rrc .h
  | .rrcL => .shiftR8 .rrc .l
  | .rrcAtHl => .shiftMem .rrc
  | .rrcA => .shiftR8 .rrc .a
  | .rlB => .shiftR8 .rl .b
  | .rlC => .shiftR8 .rl .c
  | .rlD => .shiftR8 .rl .d
  | .rlE => .shiftR8 .rl .e
  | .rlH => .shiftR8 .rl .h
  | .rlL => .shiftR8 .rl .l
  | .rlAtHl => .shiftMem .rl
  | .rlA => .shiftR8 .rl .a
  | .rrB => .shiftR8 .rr .b
  | .rrC => .shiftR8 .rr .c
  | .rrD => .shiftR8 .rr .d
  | .rrE => .shiftR8 .rr .e
  | .rrH => .shiftR8 .rr .h
  | .rrL => .shiftR8 .rr .l
  | .rrAtHl => .shiftMem .rr
  | .rrA => .shiftR8 .rr .a
  | .slaB => .shiftR8 .sla .b
  | .slaC => .shiftR8 .sla .c
  | .slaD => .shiftR8 .sla .d
  | .slaE => .shiftR8 .sla .e
  | .slaH => .shiftR8 .sla .h
  | .slaL => .shiftR8 .sla .l
  | .slaAtHl => .shiftMem .sla
  | .slaA => .shiftR8 .sla .a
  | .sraB => .shiftR8 .sra .b
  | .sraC => .shiftR8 .sra .c
  | .sraD => .shiftR8 .sra .d
  | .sraE => .shiftR8 .sra .e
  | .sraH => .shiftR8 .sra .h
  | .sraL => .shiftR8 .sra .l
  | .sraAtHl => .shiftMem .sra
  | .sraA => .shiftR8 .sra .a
  | .swapB => .shiftR8 .swap .b
  | .swapC => .shiftR8 .swap .c
  | .swapD => .shiftR8 .swap .d
  | .swapE => .shiftR8 .swap .e
  | .swapH => .shiftR8 .swap .h
  | .swapL => .shiftR8 .swap .l
  | .swapAtHl => .shiftMem .swap
  | .swapA => .shiftR8 .swap .a
  | .srlB => .shiftR8 .srl .b
  | .srlC => .shiftR8 .srl .c
  | .srlD => .shiftR8 .srl .d
  | .srlE => .shiftR8 .srl .e
  | .srlH => .shiftR8 .srl .h
  | .srlL => .shiftR8 .srl .l
  | .srlAtHl => .shiftMem .srl
  | .srlA => .shiftR8 .srl .a
  | .bit0B => .bitR8 0 .b
  | .bit0C => .bitR8 0 .c
  | .bit0D => .bitR8 0 .d
  | .bit0E => .bitR8 0 .e
  | .bit0H => .bitR8 0 .h
  | .bit0L => .bitR8 0 .l
  | .bit0AtHl => .bitMem 0
  | .bit0A => .bitR8 0 .a
  | .bit1B => .bitR8 1 .b
  | .bit1C => .bitR8 1 .c
  | .bit1D => .bitR8 1 .d
  | .bit1E => .bitR8 1 .e
  | .bit1H => .bitR8 1 .h
  | .bit1L => .bitR8 1 .l
  | .bit1AtHl => .bitMem 1
  | .bit1A => .bitR8 1 .a
  | .bit2B => .bitR8 2 .b
  | .bit2C => .bitR8 2 .c
  | .bit2D => .bitR8 2 .d
  | .bit2E => .bitR8 2 .e
  | .bit2H => .bitR8 2 .h
  | .bit2L => .bitR8 2 .l
  | .bit2AtHl => .bitMem 2
  | .bit2A => .bitR8 2 .a
  | .bit3B => .bitR8 3 .b
  | .bit3C => .bitR8 3 .c
  | .bit3D => .bitR8 3 .d
  | .bit3E => .bitR8 3 .e
  | .bit3H => .bitR8 3 .h
  | .bit3L => .bitR8 3 .l
  | .bit3AtHl => .bitMem 3
  | .bit3A => .bitR8 3 .a
  | .bit4B => .bitR8 4 .b
  | .bit4C => .bitR8 4 .c
  | .bit4D => .bitR8 4 .d
  | .bit4E => .bitR8 4 .e
  | .bit4H => .bitR8 4 .h
  | .bit4L => .bitR8 4 .l
  | .bit4AtHl => .bitMem 4
  | .bit4A => .bitR8 4 .a
  | .bit5B => .bitR8 5 .b
  | .bit5C => .bitR8 5 .c
  | .bit5D => .bitR8 5 .d
  | .bit5E => .bitR8 5 .e
  | .bit5H => .bitR8 5 .h
  | .bit5L => .bitR8 5 .l
  | .bit5AtHl => .bitMem 5
  | .bit5A => .bitR8 5 .a
  | .bit6B => .bitR8 6 .b
  | .bit6C => .bitR8 6 .c
  | .bit6D => .bitR8 6 .d
  | .bit6E => .bitR8 6 .e
  | .bit6H => .bitR8 6 .h
  | .bit6L => .bitR8 6 .l
  | .bit6AtHl => .bitMem 6
  | .bit6A => .bitR8 6 .a
  | .bit7B => .bitR8 7 .b
  | .bit7C => .bitR8 7 .c
  | .bit7D => .bitR8 7 .d
  | .bit7E => .bitR8 7 .e
  | .bit7H => .bitR8 7 .h
  | .bit7L => .bitR8 7 .l
  | .bit7AtHl => .bitMem 7
  | .bit7A => .bitR8 7 .a
  | .res0B => .resR8 0 .b
  | .res0C => .resR8 0 .c
  | .res0D => .resR8 0 .d
  | .res0E => .resR8 0 .e
  | .res0H => .resR8 0 .h
  | .res0L => .resR8 0 .l
  | .res0AtHl => .resMem 0
  | .res0A => .resR8 0 .a
  | .res1B => .resR8 1 .b
  | .res1C => .resR8 1 .c
  | .res1D => .resR8 1 .d
  | .res1E => .resR8 1 .e
  | .res1H => .resR8 1 .h
  | .res1L => .resR8 1 .l
  | .res1AtHl => .resMem 1
  | .res1A => .resR8 1 .a
  | .res2B => .resR8 2 .b
  | .res2C => .resR8 2 .c
  | .res2D => .resR8 2 .d
  | .res2E => .resR8 2 .e
  | .res2H => .resR8 2 .h
  | .res2L => .resR8 2 .l
  | .res2AtHl => .resMem 2
  | .res2A => .resR8 2 .a
  | .res3B => .resR8 3 .b
  | .res3C => .resR8 3 .c
  | .res3D => .resR8 3 .d
  | .res3E => .resR8 3 .e
  | .res3H => .resR8 3 .h
  | .res3L => .resR8 3 .l
  | .res3AtHl => .resMem 3
  | .res3A => .resR8 3 .a
  | .res4B => .resR8 4 .b
  | .res4C => .resR8 4 .c
  | .res4D => .resR8 4 .d
  | .res4E => .resR8 4 .e
  | .res4H => .resR8 4 .h
  | .res4L => .resR8 4 .l
  | .res4AtHl => .resMem 4
  | .res4A => .resR8 4 .a
  | .res5B => .resR8 5 .b
  | .res5C => .resR8 5 .c
  | .res5D => .resR8 5 .d
  | .res5E => .resR8 5 .e
  | .res5H => .resR8 5 .h
  | .res5L => .resR8 5 .l
  | .res5AtHl => .resMem 5
  | .res5A => .resR8 5 .a
  | .res6B => .resR8 6 .b
  | .res6C => .resR8 6 .c
  | .res6D => .resR8 6 .d
  | .res6E => .resR8 6 .e
  | .res6H => .resR8 6 .h
  | .res6L => .resR8 6 .l
  | .res6AtHl => .resMem 6
  | .res6A => .resR8 6 .a
  | .res7B => .resR8 7 .b
  | .res7C => .resR8 7 .c
  | .res7D => .resR8 7 .d
  | .res7E => .resR8 7 .e
  | .res7H => .resR8 7 .h
  | .res7L => .resR8 7 .l
  | .res7AtHl => .resMem 7
  | .res7A => .resR8 7 .a
  | .set0B => .setR8Bit 0 .b
  | .set0C => .setR8Bit 0 .c
  | .set0D => .setR8Bit 0 .d
  | .set0E => .setR8Bit 0 .e
  | .set0H => .setR8Bit 0 .h
  | .set0L => .setR8Bit 0 .l
  | .set0AtHl => .setMem 0
  | .set0A => .setR8Bit 0 .a
  | .set1B => .setR8Bit 1 .b
  | .set1C => .setR8Bit 1 .c
  | .set1D => .setR8Bit 1 .d
  | .set1E => .setR8Bit 1 .e
  | .set1H => .setR8Bit 1 .h
  | .set1L => .setR8Bit 1 .l
  | .set1AtHl => .setMem 1
  | .set1A => .setR8Bit 1 .a
  | .set2B => .setR8Bit 2 .b
  | .set2C => .setR8Bit 2 .c
  | .set2D => .setR8Bit 2 .d
  | .set2E => .setR8Bit 2 .e
  | .set2H => .setR8Bit 2 .h
  | .set2L => .setR8Bit 2 .l
  | .set2AtHl => .setMem 2
  | .set2A => .setR8Bit 2 .a
  | .set3B => .setR8Bit 3 .b
  | .set3C => .setR8Bit 3 .c
  | .set3D => .setR8Bit 3 .d
  | .set3E => .setR8Bit 3 .e
  | .set3H => .setR8Bit 3 .h
  | .set3L => .setR8Bit 3 .l
  | .set3AtHl => .setMem 3
  | .set3A => .setR8Bit 3 .a
  | .set4B => .setR8Bit 4 .b
  | .set4C => .setR8Bit 4 .c
  | .set4D => .setR8Bit 4 .d
  | .set4E => .setR8Bit 4 .e
  | .set4H => .setR8Bit 4 .h
  | .set4L => .setR8Bit 4 .l
  | .set4AtHl => .setMem 4
  | .set4A => .setR8Bit 4 .a
  | .set5B => .setR8Bit 5 .b
  | .set5C => .setR8Bit 5 .c
  | .set5D => .setR8Bit 5 .d
  | .set5E => .setR8Bit 5 .e
  | .set5H => .setR8Bit 5 .h
  | .set5L => .setR8Bit 5 .l
  | .set5AtHl => .setMem 5
  | .set5A => .setR8Bit 5 .a
  | .set6B => .setR8Bit 6 .b
  | .set6C => .setR8Bit 6 .c
  | .set6D => .setR8Bit 6 .d
  | .set6E => .setR8Bit 6 .e
  | .set6H => .setR8Bit 6 .h
  | .set6L => .setR8Bit 6 .l
  | .set6AtHl => .setMem 6
  | .set6A => .setR8Bit 6 .a
  | .set7B => .setR8Bit 7 .b
  | .set7C => .setR8Bit 7 .c
  | .set7D => .setR8Bit 7 .d
  | .set7E => .setR8Bit 7 .e
  | .set7H => .setR8Bit 7 .h
  | .set7L => .setR8Bit 7 .l
  | .set7AtHl => .setMem 7
  | .set7A => .setR8Bit 7 .a

/-- exec runs the shape of its instruction: the one lemma a proof about every instruction starts from. -/
theorem exec_eq_shape (i : Instr) (s : State) : exec i s = (shapeOf i).run s := by
  cases i <;> rfl

end Sys2Proof.Machine
end

