-- ==== Sys2Proof/Laws/Fetch.lean ====
section
/-! SUPPORT. The fetch: the instruction it gives is the one that the bytes read at PC decode to, and it changes nothing but the record of
accesses, the dispatch state and what its reads do behind the accessors. -/

namespace Sys2Proof.Machine

/-- The instruction that the bytes at PC, PC +16 1 and PC +16 2 decode to, each as a read after the reads before it returns it. -/
def State.fetched (s : State) : Instr :=
  decode3 (s.peek s.pc) ((s.afterRead s.pc).peek (s.pc + 1)) (((s.afterRead s.pc).afterRead (s.pc + 1)).peek (s.pc + 2))

theorem State.fetch_fst (s : State) : s.fetch.1 = s.fetched := by
  simp only [State.fetch, State.fetched, decode3, State.readByte]
  cases primary (s.peek s.pc) <;> rfl

/-- The fetch writes the record, the dispatch state and the collaborator behind the accessors alone. -/
theorem State.fetch_snd (s : State) :
    s.fetch.2 = { s with accessors := s.fetch.2.accessors, bus := s.fetch.2.bus, dispatch := s.fetch.2.dispatch } := by
  simp only [State.fetch, State.readByte]
  cases primary (s.peek s.pc) <;> rfl

/-- With the default BUS the three bytes are those that stand in memory. -/
theorem State.fetched_plainRam {s : State} (h : s.accessors = .plainRam) :
    s.fetched = decode3 (s.peek s.pc) (s.peek (s.pc + 1)) (s.peek (s.pc + 2)) := by
  simp only [State.fetched, State.afterRead_plainRam h]

/-- A step runs the instruction the bytes at PC decode to. -/
theorem step_eq_exec (s : State) : step s = exec s.fetched s.beginStep.fetch.2 := by
  rw [step, State.fetch_fst]
  rfl

end Sys2Proof.Machine
end

