-- ==== Sys2Proof/Laws/Memory.lean ====
section
/-! SUPPORT. The laws of memory: every operation keeps the canonical form, a read after a write, and the frame of a write. -/

namespace Sys2Proof.Machine

/-- The canonical form from a cell on, taken apart. -/
theorem Memory.wfFrom_cons {lo k : Nat} {w : Byte} {m : Memory} :
    Memory.wfFrom lo ((k, w) :: m) = true ↔
      lo ≤ k ∧ k < 65536 ∧ w ≠ Memory.unlisted ∧ Memory.wfFrom (k + 1) m = true := by
  simp [Memory.wfFrom, and_assoc]

/-- A memory canonical from an address on is canonical from every lower one. -/
theorem Memory.wfFrom_mono {lo lo' : Nat} (h : lo' ≤ lo) : ∀ {m : Memory}, Memory.wfFrom lo m = true → Memory.wfFrom lo' m = true
  | [], _ => rfl
  | (_, _) :: _, hm => by
    obtain ⟨h1, h2⟩ := Memory.wfFrom_cons.mp hm
    exact Memory.wfFrom_cons.mpr ⟨h.trans h1, h2⟩

/-- A write keeps the canonical form. -/
theorem Memory.wfFrom_write {v : Byte} : ∀ {m : Memory} {lo a : Nat}, lo ≤ a → a < 65536 → Memory.wfFrom lo m = true →
    Memory.wfFrom lo (m.write a v) = true
  | [], lo, a, hlo, ha, _ => by
    by_cases hv : v = Memory.unlisted
    · simp [Memory.write, hv, Memory.wfFrom]
    · simp [Memory.write, hv, Memory.wfFrom, hlo, ha]
  | (k, w) :: m, lo, a, hlo, ha, hm => by
    obtain ⟨h1, h2, h3, h4⟩ := Memory.wfFrom_cons.mp hm
    simp only [Memory.write]
    split
    · rename_i hk
      exact Memory.wfFrom_cons.mpr ⟨h1, h2, h3, Memory.wfFrom_write hk ha h4⟩
    · rename_i hk
      split
      · rename_i hka
        subst hka
        split
        · exact Memory.wfFrom_mono (by omega) h4
        · rename_i hv
          exact Memory.wfFrom_cons.mpr ⟨hlo, ha, hv, h4⟩
      · split
        · exact hm
        · rename_i hka hv
          exact Memory.wfFrom_cons.mpr ⟨hlo, ha, hv, Memory.wfFrom_cons.mpr ⟨by omega, h2, h3, h4⟩⟩

/-- Writing a cell of the space keeps the canonical form. -/
theorem Memory.wf_write {m : Memory} (a : Word) (v : Byte) (h : m.wf = true) : (m.write a.toNat v).wf = true :=
  Memory.wfFrom_write (Nat.zero_le _) a.isLt h

/-- Placing bytes keeps the canonical form. -/
theorem Memory.wf_writeBytes : ∀ (vs : List Byte) {m : Memory} (a : Word), m.wf = true → (m.writeBytes a vs).wf = true
  | [], _, _, h => h
  | _ :: vs, _, a, h => Memory.wf_writeBytes vs (a + 1) (Memory.wf_write a _ h)

/-- The memory with nothing listed is canonical. -/
@[simp] theorem Memory.wf_nil : Memory.wf [] = true := rfl

/-- The frame of a write: every other cell reads as before, whatever the list. -/
theorem Memory.read_write_other {v : Byte} {a b : Nat} (hab : b ≠ a) : ∀ (m : Memory), (m.write a v).read b = m.read b
  | [] => by
    simp only [Memory.write]
    split
    · rfl
    · simp [Memory.read, Ne.symm hab]
  | (k, w) :: m => by
    simp only [Memory.write]
    split
    · simp [Memory.read, Memory.read_write_other hab m]
    · split
      · rename_i hka
        subst hka
        split <;> simp [Memory.read, Ne.symm hab]
      · split <;> simp [Memory.read, Ne.symm hab]

/-- Below the first address a canonical list holds, every cell is unlisted. -/
theorem Memory.read_below {a : Nat} : ∀ {m : Memory} {lo : Nat}, Memory.wfFrom lo m = true → a < lo → m.read a = Memory.unlisted
  | [], _, _, _ => rfl
  | (k, w) :: m, lo, hm, ha => by
    obtain ⟨h1, _, _, h4⟩ := Memory.wfFrom_cons.mp hm
    have hk : k ≠ a := by omega
    simp only [Memory.read, if_neg hk]
    exact Memory.read_below h4 (by omega)

/-- A read after a write to the same cell gives the byte written. -/
theorem Memory.read_write_same {v : Byte} {a : Nat} : ∀ {m : Memory} {lo : Nat}, Memory.wfFrom lo m = true →
    (m.write a v).read a = v
  | [], _, _ => by
    simp only [Memory.write]
    split
    · rename_i h
      exact h.symm
    · simp [Memory.read]
  | (k, w) :: m, lo, hm => by
    obtain ⟨_, _, _, h4⟩ := Memory.wfFrom_cons.mp hm
    simp only [Memory.write]
    split
    · rename_i hk
      have hne : k ≠ a := by omega
      simp only [Memory.read, if_neg hne]
      exact Memory.read_write_same h4
    · rename_i hk
      split
      · rename_i hka
        subst hka
        split
        · rename_i hv
          rw [hv]
          exact Memory.read_below h4 (by omega)
        · simp [Memory.read]
      · rename_i hka
        split
        · rename_i hv
          have hne : k ≠ a := hka
          simp only [Memory.read, if_neg hne]
          rw [hv]
          exact Memory.read_below h4 (by omega)
        · simp [Memory.read]

/-- The two cells of a word are different cells. -/
theorem toNat_add_one_ne (a : Word) : (a + 1).toNat ≠ a.toNat := by
  have := a.isLt
  rw [BitVec.toNat_add]
  simp
  omega

/-- A write of any BUS keeps the cells canonical. -/
theorem Bus.wf_cellsAfterWrite {b : Bus} {m : Memory} (a : Word) (v : Byte) (h : m.wf = true) :
    (b.cellsAfterWrite m a v).wf = true := by
  cases b with
  | plainRam => exact Memory.wf_write a v h
  | collaborator k => exact h

/-- The memory operations of State keep the canonical form, whatever the BUS. -/
theorem State.wf_store {s : State} (a : Word) (v : Byte) (h : s.mem.wf = true) : (s.store a v).mem.wf = true :=
  Bus.wf_cellsAfterWrite a v h

theorem State.wf_writeByte {s : State} (a : Word) (v : Byte) (h : s.mem.wf = true) : (s.writeByte a v).mem.wf = true :=
  Bus.wf_cellsAfterWrite a v h

theorem State.wf_writeWord {s : State} (a v : Word) (h : s.mem.wf = true) : (s.writeWord a v).mem.wf = true :=
  Bus.wf_cellsAfterWrite _ _ (Bus.wf_cellsAfterWrite _ _ h)

theorem State.wf_push16 {s : State} (v : Word) (h : s.mem.wf = true) : (s.push16 v).mem.wf = true :=
  Bus.wf_cellsAfterWrite _ _ (Bus.wf_cellsAfterWrite _ _ h)

theorem State.wf_enterHandler {s : State} (a : Word) (h : s.mem.wf = true) : (s.enterHandler a).mem.wf = true :=
  Bus.wf_cellsAfterWrite _ _ (Bus.wf_cellsAfterWrite _ _ h)

theorem State.wf_pokeByte {s : State} (a : Word) (v : Byte) (h : s.mem.wf = true) : (s.pokeByte a v).mem.wf = true :=
  Bus.wf_cellsAfterWrite a v h

theorem State.wf_placeWord {s : State} (nbits w : Nat) (h : s.mem.wf = true) : (s.placeWord nbits w).mem.wf = true :=
  Memory.wf_writeBytes _ _ h

/-- With the default BUS a byte stored is read back. -/
theorem State.peek_store_same {s : State} (a : Word) (v : Byte) (hb : s.accessors = .plainRam) (h : s.mem.wf = true) :
    (s.store a v).peek a = v := by
  rw [State.peek, State.store_accessors, State.store_mem, hb]
  exact Memory.read_write_same (lo := 0) h

/-- With the default BUS every other byte reads as before. -/
theorem State.peek_store_other {s : State} {a x : Word} (v : Byte) (hb : s.accessors = .plainRam) (h : x ≠ a) :
    (s.store a v).peek x = s.peek x := by
  rw [State.peek, State.peek, State.store_accessors, State.store_mem, hb]
  exact Memory.read_write_other (fun e => h (BitVec.eq_of_toNat_eq e)) s.mem

theorem State.peek_writeByte_same {s : State} (a : Word) (v : Byte) (hb : s.accessors = .plainRam) (h : s.mem.wf = true) :
    (s.writeByte a v).peek a = v :=
  State.peek_store_same a v hb h

theorem State.peek_writeByte_other {s : State} {a x : Word} (v : Byte) (hb : s.accessors = .plainRam) (h : x ≠ a) :
    (s.writeByte a v).peek x = s.peek x :=
  State.peek_store_other v hb h

/-- With the default BUS a word written is read back, low byte first (20_memory.md R54). -/
theorem State.peek_writeWord_lo {s : State} (a v : Word) (hb : s.accessors = .plainRam) (h : s.mem.wf = true) :
    (s.writeWord a v).peek a = loByte v := by
  have hne : a ≠ a + 1 := fun e => toNat_add_one_ne a (congrArg BitVec.toNat e).symm
  rw [State.writeWord, State.peek_writeByte_other _ (by simpa using hb) hne, State.peek_writeByte_same a _ hb h]

theorem State.peek_writeWord_hi {s : State} (a v : Word) (hb : s.accessors = .plainRam) (h : s.mem.wf = true) :
    (s.writeWord a v).peek (a + 1) = hiByte v :=
  State.peek_writeByte_same _ _ (by simpa using hb) (State.wf_writeByte _ _ h)

/-- The frame of a word write with the default BUS. -/
theorem State.peek_writeWord_other {s : State} {a x : Word} (v : Word) (hb : s.accessors = .plainRam) (h0 : x ≠ a)
    (h1 : x ≠ a + 1) : (s.writeWord a v).peek x = s.peek x := by
  rw [State.writeWord, State.peek_writeByte_other _ (by simpa using hb) h1, State.peek_writeByte_other _ hb h0]

/-- The frame of a push with the default BUS: only the two bytes below the old SP may change. -/
theorem State.peek_push16_other {s : State} {x : Word} (v : Word) (hb : s.accessors = .plainRam) (h0 : x ≠ s.sp - 2)
    (h1 : x ≠ s.sp - 2 + 1) : (s.push16 v).peek x = s.peek x :=
  State.peek_writeWord_other (s := { s with sp := s.sp - 2 }) v hb h0 h1

/-- A handler entry writes the bytes a push of the pc writes. -/
theorem State.peek_enterHandler {s : State} (handler x : Word) : (s.enterHandler handler).peek x = (s.push16 s.pc).peek x := rfl

end Sys2Proof.Machine
end

