-- ==== Sys2Proof/Laws/Operations.lean ====
section
/-! SUPPORT. One lemma per shared operation that says once all it does, with every read written as `peek`, the ripples as the 16-bit
sums they are, and a conditional form split by its condition. A proof about an instruction cites these and unfolds no
meaning. -/

namespace Sys2Proof.Machine

theorem ldR8R8_eq (dst r : R8) (s : State) : ldR8R8 dst r s =
    .next ((s.setR8 dst (s.getR8 r)).retire (s.pc + 1) 1) := rfl

theorem ldR8N8_eq (dst : R8) (n : Byte) (s : State) : ldR8N8 dst n s =
    .next ((s.setR8 dst n).retire (s.pc + 2) 2) := rfl

theorem ldR8AtHl_eq (dst : R8) (s : State) : ldR8AtHl dst s =
    .next (((s.readByte s.hl).2.setR8 dst (s.peek s.hl)).retire (s.pc + 1) 2) := rfl

theorem ldAtHlR8_eq (r : R8) (s : State) : ldAtHlR8 r s =
    .next ((s.writeByte s.hl (s.getR8 r)).retire (s.pc + 1) 2) := rfl

theorem ldAtHlImm_eq (n : Byte) (s : State) : ldAtHlImm n s =
    .next ((s.writeByte s.hl n).retire (s.pc + 2) 3) := rfl

theorem ldAccAtPair_eq (q : Pair) (s : State) : ldAccAtPair q s =
    .next ({ (s.readByte (s.getPair q)).2 with a := s.peek (s.getPair q) }.retire (s.pc + 1) 2) := rfl

theorem ldAtPairAcc_eq (q : Pair) (s : State) : ldAtPairAcc q s =
    .next ((s.writeByte (s.getPair q) s.a).retire (s.pc + 1) 2) := rfl

theorem ldAccAtAddr_eq (n : Word) (s : State) : ldAccAtAddr n s =
    .next ({ (s.readByte (n)).2 with a := s.peek (n) }.retire (s.pc + 3) 4) := rfl

theorem ldAtAddrAcc_eq (n : Word) (s : State) : ldAtAddrAcc n s =
    .next ((s.writeByte n s.a).retire (s.pc + 3) 4) := rfl

theorem ldAccAtPage_eq (n : Byte) (s : State) : ldAccAtPage n s =
    .next ({ (s.readByte (pageAddr n)).2 with a := s.peek (pageAddr n) }.retire (s.pc + 2) 3) := rfl

theorem ldAtPageAcc_eq (n : Byte) (s : State) : ldAtPageAcc n s =
    .next ((s.writeByte (pageAddr n) s.a).retire (s.pc + 2) 3) := rfl

theorem ldAccAtPageC_eq (s : State) : ldAccAtPageC s =
    .next ({ (s.readByte (pageAddr s.c)).2 with a := s.peek (pageAddr s.c) }.retire (s.pc + 1) 2) := rfl

theorem ldAtPageCAcc_eq (s : State) : ldAtPageCAcc s =
    .next ((s.writeByte (pageAddr s.c) s.a).retire (s.pc + 1) 2) := rfl

theorem ldAtHlStepAcc_eq (by_ : Word) (s : State) : ldAtHlStepAcc by_ s =
    .next (((s.writeByte s.hl s.a).setPair .hl (s.hl + by_)).retire (s.pc + 1) 2) := rfl

theorem ldAccAtHlStep_eq (by_ : Word) (s : State) : ldAccAtHlStep by_ s =
    .next (({ (s.readByte (s.hl)).2 with a := s.peek (s.hl) }.setPair .hl (s.hl + by_)).retire (s.pc + 1) 2) := rfl

theorem ldR16N16_eq (ss : R16) (n : Word) (s : State) : ldR16N16 ss n s =
    .next ((s.setR16 ss n).retire (s.pc + 3) 3) := rfl

theorem ldAtAddrSp_eq (n : Word) (s : State) : ldAtAddrSp n s =
    .next ((s.writeWord n s.sp).retire (s.pc + 3) 5) := rfl

theorem ldStackHl_eq (s : State) : ldStackHl s =
    .next ({ s with sp := s.hl }.retire (s.pc + 1) 2) := rfl

theorem pushPair_eq (q : Pair) (s : State) : pushPair q s =
    .next ((s.push16 (s.getPair q)).retire (s.pc + 1) 4) := rfl

theorem pushAcc_eq (s : State) : pushAcc s =
    .next ((s.push16 (joinBytes s.a (flagByte s.zf s.cf))).retire (s.pc + 1) 4) := rfl

theorem popPair_eq (q : Pair) (s : State) : popPair q s =
    .next ((s.pop16.2.setPair q (joinBytes ((s.afterRead s.sp).peek (s.sp + 1)) (s.peek s.sp))).retire (s.pc + 1) 3) := rfl

theorem popAcc_eq (s : State) : popAcc s =
    .next ({ s.pop16.2 with
      a := (s.afterRead s.sp).peek (s.sp + 1), zf := flagByteZ (s.peek s.sp), cf := flagByteC (s.peek s.sp) }.retire (s.pc + 1) 3) := by
  simp only [popAcc, State.pop16_fst, hiByte_joinBytes, loByte_joinBytes]

theorem incR8_eq (r : R8) (s : State) : incR8 r s =
    .next ({ s.setR8 r (s.getR8 r + 1) with zf := isZero (s.getR8 r + 1) }.retire (s.pc + 1) 1) := rfl

theorem decR8_eq (r : R8) (s : State) : decR8 r s =
    .next ({ s.setR8 r (s.getR8 r - 1) with zf := isZero (s.getR8 r - 1) }.retire (s.pc + 1) 1) := rfl

theorem incMem_eq (s : State) : incMem s =
    .next ({ (s.readByte s.hl).2.writeByte s.hl (s.peek s.hl + 1) with
      zf := isZero (s.peek s.hl + 1) }.retire (s.pc + 1) 3) := rfl

theorem decMem_eq (s : State) : decMem s =
    .next ({ (s.readByte s.hl).2.writeByte s.hl (s.peek s.hl - 1) with
      zf := isZero (s.peek s.hl - 1) }.retire (s.pc + 1) 3) := rfl

theorem aluR8_eq (op : AluOp) (r : R8) (s : State) : aluR8 op r s =
    .next ((s.applyAlu op (s.getR8 r)).retire (s.pc + 1) 1) := rfl

theorem aluMem_eq (op : AluOp) (s : State) : aluMem op s =
    .next (((s.readByte s.hl).2.applyAlu op (s.peek s.hl)).retire (s.pc + 1) 2) := rfl

theorem aluImm_eq (op : AluOp) (n : Byte) (s : State) : aluImm op n s =
    .next ((s.applyAlu op n).retire (s.pc + 2) 2) := rfl

theorem complementAcc_eq (s : State) : complementAcc s =
    .next ({ s with a := ~~~s.a }.retire (s.pc + 1) 1) := rfl

theorem setCarry_eq (s : State) : setCarry s =
    .next ({ s with cf := true }.retire (s.pc + 1) 1) := rfl

theorem complementCarry_eq (s : State) : complementCarry s =
    .next ({ s with cf := !s.cf }.retire (s.pc + 1) 1) := rfl

theorem incR16_eq (ss : R16) (s : State) : incR16 ss s =
    .next ((s.setR16 ss (s.getR16 ss + 1)).retire (s.pc + 1) 2) := by
  cases ss <;> simp [incR16, rippleInc_eq, State.getR16]

theorem decR16_eq (ss : R16) (s : State) : decR16 ss s =
    .next ((s.setR16 ss (s.getR16 ss - 1)).retire (s.pc + 1) 2) := by
  cases ss <;> simp [decR16, rippleDec_eq, State.getR16]

theorem addHlR16_eq (ss : R16) (s : State) : addHlR16 ss s =
    .next ({ s.setPair .hl (s.hl + s.getR16 ss) with
      cf := decide (s.hl.toNat + (s.getR16 ss).toNat ≥ 0x10000) }.retire (s.pc + 1) 2) := by
  simp only [addHlR16, add16, BitVec.ofNat_add, BitVec.ofNat_toNat, BitVec.setWidth_eq]

theorem addSpImm_eq (e : Byte) (s : State) : addSpImm e s =
    .next ({ s with
      sp := s.sp + sext16 e, zf := false, cf := decide ((loByte s.sp).toNat + e.toNat > 0xFF) }.retire (s.pc + 2) 4) := rfl

theorem ldHlSpImm_eq (e : Byte) (s : State) : ldHlSpImm e s =
    .next ({ s.setPair .hl (s.sp + sext16 e) with
      zf := false, cf := decide ((loByte s.sp).toNat + e.toNat > 0xFF) }.retire (s.pc + 2) 3) := rfl

theorem jumpRelative_eq (e : Byte) (s : State) : jumpRelative e s =
    .next (s.retire (jrTarget s.pc e) 3) := rfl

theorem jumpRelativeIf_taken (cc : Cond) (e : Byte) (s : State) (h : s.cond cc = true) : jumpRelativeIf cc e s =
    .next (s.retire (jrTarget s.pc e) 3) := if_pos h

theorem jumpRelativeIf_untaken (cc : Cond) (e : Byte) (s : State) (h : s.cond cc = false) : jumpRelativeIf cc e s =
    .next (s.retire (s.pc + 2) 2) := if_neg (by simp [h])

theorem jumpAbsolute_eq (n : Word) (s : State) : jumpAbsolute n s =
    .next (s.retire n 4) := rfl

theorem jumpAbsoluteIf_taken (cc : Cond) (n : Word) (s : State) (h : s.cond cc = true) : jumpAbsoluteIf cc n s =
    .next (s.retire n 4) := if_pos h

theorem jumpAbsoluteIf_untaken (cc : Cond) (n : Word) (s : State) (h : s.cond cc = false) : jumpAbsoluteIf cc n s =
    .next (s.retire (s.pc + 3) 3) := if_neg (by simp [h])

theorem jumpToHl_eq (s : State) : jumpToHl s =
    .next (s.retire s.hl 1) := rfl

theorem callAddr_eq (n : Word) (s : State) : callAddr n s =
    .next ((s.push16 (s.pc + 3)).retire n 6) := rfl

theorem callAddrIf_taken (cc : Cond) (n : Word) (s : State) (h : s.cond cc = true) : callAddrIf cc n s =
    .next ((s.push16 (s.pc + 3)).retire n 6) := if_pos h

theorem callAddrIf_untaken (cc : Cond) (n : Word) (s : State) (h : s.cond cc = false) : callAddrIf cc n s =
    .next (s.retire (s.pc + 3) 3) := if_neg (by simp [h])

theorem returnAlways_eq (s : State) : returnAlways s =
    .next (s.pop16.2.retire (joinBytes ((s.afterRead s.sp).peek (s.sp + 1)) (s.peek s.sp)) 4) := rfl

theorem returnIf_taken (cc : Cond) (s : State) (h : s.cond cc = true) : returnIf cc s =
    .next (s.pop16.2.retire (joinBytes ((s.afterRead s.sp).peek (s.sp + 1)) (s.peek s.sp)) s.config.retCcTakenCost) := if_pos h

theorem returnIf_untaken (cc : Cond) (s : State) (h : s.cond cc = false) : returnIf cc s =
    .next (s.retire (s.pc + 1) 2) := if_neg (by simp [h])

theorem returnEnabling_eq (s : State) : returnEnabling s =
    .next ({ s.pop16.2 with ime := true }.retire (joinBytes ((s.afterRead s.sp).peek (s.sp + 1)) (s.peek s.sp)) 4) := rfl

theorem restart_eq (t : Fin 8) (s : State) : restart t s =
    .next ((s.push16 (s.pc + 1)).retire (restartTarget t) 4) := rfl

theorem noOperation_eq (s : State) : noOperation s =
    .next (s.retire (s.pc + 1) 1) := rfl

theorem haltCore_eq (s : State) : haltCore s =
    .next (s.retireAs .halted (s.pc + 1) 1) := rfl

theorem stopCore_eq (s : State) : stopCore s =
    .next (s.retireAs .stopped (s.pc + 2) 1) := rfl

theorem setInterruptEnable_eq (v : Bool) (s : State) : setInterruptEnable v s =
    .next ({ s with ime := v }.retire (s.pc + 1) 1) := rfl

theorem rotateAcc_eq (op : ShiftOp) (s : State) : rotateAcc op s =
    .next ({ s with a := (shift8 op s.a s.cf).1, zf := false, cf := (shift8 op s.a s.cf).2 }.retire (s.pc + 1) 1) := rfl

theorem shiftR8_eq (op : ShiftOp) (r : R8) (s : State) : shiftR8 op r s =
    .next ({ s.setR8 r (shift8 op (s.getR8 r) s.cf).1 with
      zf := isZero (shift8 op (s.getR8 r) s.cf).1, cf := (shift8 op (s.getR8 r) s.cf).2 }.retire (s.pc + 2) 2) := rfl

theorem shiftMem_eq (op : ShiftOp) (s : State) : shiftMem op s =
    .next ({ (s.readByte s.hl).2.writeByte s.hl (shift8 op (s.peek s.hl) s.cf).1 with
      zf := isZero (shift8 op (s.peek s.hl) s.cf).1, cf := (shift8 op (s.peek s.hl) s.cf).2 }.retire (s.pc + 2) 4) := rfl

theorem bitR8_eq (n : Fin 8) (r : R8) (s : State) : bitR8 n r s =
    .next ({ s with zf := !(s.getR8 r).getLsbD n.val }.retire (s.pc + 2) 2) := rfl

theorem bitMem_eq (n : Fin 8) (s : State) : bitMem n s =
    .next ({ (s.readByte s.hl).2 with zf := !(s.peek s.hl).getLsbD n.val }.retire (s.pc + 2) 3) := rfl

theorem resR8_eq (n : Fin 8) (r : R8) (s : State) : resR8 n r s =
    .next ((s.setR8 r (clearBit n (s.getR8 r))).retire (s.pc + 2) 2) := rfl

theorem resMem_eq (n : Fin 8) (s : State) : resMem n s =
    .next (((s.readByte s.hl).2.writeByte s.hl (clearBit n (s.peek s.hl))).retire (s.pc + 2) 4) := rfl

theorem setR8Bit_eq (n : Fin 8) (r : R8) (s : State) : setR8Bit n r s =
    .next ((s.setR8 r (putBit n (s.getR8 r))).retire (s.pc + 2) 2) := rfl

theorem setMem_eq (n : Fin 8) (s : State) : setMem n s =
    .next (((s.readByte s.hl).2.writeByte s.hl (putBit n (s.peek s.hl))).retire (s.pc + 2) 4) := rfl

end Sys2Proof.Machine
end

