-- ==== Sys2Proof/Laws/PerInstr.lean ====
section
/-! SUPPORT. Laws of every instruction, one lemma per constructor of Instr. -/

namespace Sys2Proof.Laws

/-- The encoding of an instruction is as long as its first byte says (30_encoding.md R80). -/
def EncodedLength.Statement (i : Instr) : Prop := (encode i).length = lengthOf ((encode i).headD 0)

/-- The law from the bytes written out: the first byte and what follows it. -/
theorem encodedLength_of {i : Instr} (b0 : Byte) (rest : List Byte) (h : encode i = b0 :: rest)
    (hl : rest.length + 1 = lengthOf b0) : EncodedLength.Statement i := by
  rw [EncodedLength.Statement, h]
  exact hl

theorem EncodedLength.nop : EncodedLength.Statement .nop := encodedLength_of 0x00 [] rfl rfl
theorem EncodedLength.ldBcN16 (n : Word) : EncodedLength.Statement (.ldBcN16 n) := encodedLength_of 0x01 [loByte n, hiByte n] rfl rfl
theorem EncodedLength.ldAtBcA : EncodedLength.Statement .ldAtBcA := encodedLength_of 0x02 [] rfl rfl
theorem EncodedLength.incBc : EncodedLength.Statement .incBc := encodedLength_of 0x03 [] rfl rfl
theorem EncodedLength.incB : EncodedLength.Statement .incB := encodedLength_of 0x04 [] rfl rfl
theorem EncodedLength.decB : EncodedLength.Statement .decB := encodedLength_of 0x05 [] rfl rfl
theorem EncodedLength.ldBN8 (n : Byte) : EncodedLength.Statement (.ldBN8 n) := encodedLength_of 0x06 [n] rfl rfl
theorem EncodedLength.rlca : EncodedLength.Statement .rlca := encodedLength_of 0x07 [] rfl rfl
theorem EncodedLength.ldAtN16Sp (n : Word) : EncodedLength.Statement (.ldAtN16Sp n) := encodedLength_of 0x08 [loByte n, hiByte n] rfl rfl
theorem EncodedLength.addHlBc : EncodedLength.Statement .addHlBc := encodedLength_of 0x09 [] rfl rfl
theorem EncodedLength.ldAAtBc : EncodedLength.Statement .ldAAtBc := encodedLength_of 0x0A [] rfl rfl
theorem EncodedLength.decBc : EncodedLength.Statement .decBc := encodedLength_of 0x0B [] rfl rfl
theorem EncodedLength.incC : EncodedLength.Statement .incC := encodedLength_of 0x0C [] rfl rfl
theorem EncodedLength.decC : EncodedLength.Statement .decC := encodedLength_of 0x0D [] rfl rfl
theorem EncodedLength.ldCN8 (n : Byte) : EncodedLength.Statement (.ldCN8 n) := encodedLength_of 0x0E [n] rfl rfl
theorem EncodedLength.rrca : EncodedLength.Statement .rrca := encodedLength_of 0x0F [] rfl rfl
theorem EncodedLength.stop (x : Byte) : EncodedLength.Statement (.stop x) := encodedLength_of 0x10 [x] rfl rfl
theorem EncodedLength.ldDeN16 (n : Word) : EncodedLength.Statement (.ldDeN16 n) := encodedLength_of 0x11 [loByte n, hiByte n] rfl rfl
theorem EncodedLength.ldAtDeA : EncodedLength.Statement .ldAtDeA := encodedLength_of 0x12 [] rfl rfl
theorem EncodedLength.incDe : EncodedLength.Statement .incDe := encodedLength_of 0x13 [] rfl rfl
theorem EncodedLength.incD : EncodedLength.Statement .incD := encodedLength_of 0x14 [] rfl rfl
theorem EncodedLength.decD : EncodedLength.Statement .decD := encodedLength_of 0x15 [] rfl rfl
theorem EncodedLength.ldDN8 (n : Byte) : EncodedLength.Statement (.ldDN8 n) := encodedLength_of 0x16 [n] rfl rfl
theorem EncodedLength.rla : EncodedLength.Statement .rla := encodedLength_of 0x17 [] rfl rfl
theorem EncodedLength.jrE8 (e : Byte) : EncodedLength.Statement (.jrE8 e) := encodedLength_of 0x18 [e] rfl rfl
theorem EncodedLength.addHlDe : EncodedLength.Statement .addHlDe := encodedLength_of 0x19 [] rfl rfl
theorem EncodedLength.ldAAtDe : EncodedLength.Statement .ldAAtDe := encodedLength_of 0x1A [] rfl rfl
theorem EncodedLength.decDe : EncodedLength.Statement .decDe := encodedLength_of 0x1B [] rfl rfl
theorem EncodedLength.incE : EncodedLength.Statement .incE := encodedLength_of 0x1C [] rfl rfl
theorem EncodedLength.decE : EncodedLength.Statement .decE := encodedLength_of 0x1D [] rfl rfl
theorem EncodedLength.ldEN8 (n : Byte) : EncodedLength.Statement (.ldEN8 n) := encodedLength_of 0x1E [n] rfl rfl
theorem EncodedLength.rra : EncodedLength.Statement .rra := encodedLength_of 0x1F [] rfl rfl
theorem EncodedLength.jrNzE8 (e : Byte) : EncodedLength.Statement (.jrNzE8 e) := encodedLength_of 0x20 [e] rfl rfl
theorem EncodedLength.ldHlN16 (n : Word) : EncodedLength.Statement (.ldHlN16 n) := encodedLength_of 0x21 [loByte n, hiByte n] rfl rfl
theorem EncodedLength.ldAtHlIncA : EncodedLength.Statement .ldAtHlIncA := encodedLength_of 0x22 [] rfl rfl
theorem EncodedLength.incHl : EncodedLength.Statement .incHl := encodedLength_of 0x23 [] rfl rfl
theorem EncodedLength.incH : EncodedLength.Statement .incH := encodedLength_of 0x24 [] rfl rfl
theorem EncodedLength.decH : EncodedLength.Statement .decH := encodedLength_of 0x25 [] rfl rfl
theorem EncodedLength.ldHN8 (n : Byte) : EncodedLength.Statement (.ldHN8 n) := encodedLength_of 0x26 [n] rfl rfl
theorem EncodedLength.daa : EncodedLength.Statement .daa := encodedLength_of 0x27 [] rfl rfl
theorem EncodedLength.jrZE8 (e : Byte) : EncodedLength.Statement (.jrZE8 e) := encodedLength_of 0x28 [e] rfl rfl
theorem EncodedLength.addHlHl : EncodedLength.Statement .addHlHl := encodedLength_of 0x29 [] rfl rfl
theorem EncodedLength.ldAAtHlInc : EncodedLength.Statement .ldAAtHlInc := encodedLength_of 0x2A [] rfl rfl
theorem EncodedLength.decHl : EncodedLength.Statement .decHl := encodedLength_of 0x2B [] rfl rfl
theorem EncodedLength.incL : EncodedLength.Statement .incL := encodedLength_of 0x2C [] rfl rfl
theorem EncodedLength.decL : EncodedLength.Statement .decL := encodedLength_of 0x2D [] rfl rfl
theorem EncodedLength.ldLN8 (n : Byte) : EncodedLength.Statement (.ldLN8 n) := encodedLength_of 0x2E [n] rfl rfl
theorem EncodedLength.cpl : EncodedLength.Statement .cpl := encodedLength_of 0x2F [] rfl rfl
theorem EncodedLength.jrNcE8 (e : Byte) : EncodedLength.Statement (.jrNcE8 e) := encodedLength_of 0x30 [e] rfl rfl
theorem EncodedLength.ldSpN16 (n : Word) : EncodedLength.Statement (.ldSpN16 n) := encodedLength_of 0x31 [loByte n, hiByte n] rfl rfl
theorem EncodedLength.ldAtHlDecA : EncodedLength.Statement .ldAtHlDecA := encodedLength_of 0x32 [] rfl rfl
theorem EncodedLength.incSp : EncodedLength.Statement .incSp := encodedLength_of 0x33 [] rfl rfl
theorem EncodedLength.incAtHl : EncodedLength.Statement .incAtHl := encodedLength_of 0x34 [] rfl rfl
theorem EncodedLength.decAtHl : EncodedLength.Statement .decAtHl := encodedLength_of 0x35 [] rfl rfl
theorem EncodedLength.ldAtHlN8 (n : Byte) : EncodedLength.Statement (.ldAtHlN8 n) := encodedLength_of 0x36 [n] rfl rfl
theorem EncodedLength.scf : EncodedLength.Statement .scf := encodedLength_of 0x37 [] rfl rfl
theorem EncodedLength.jrCE8 (e : Byte) : EncodedLength.Statement (.jrCE8 e) := encodedLength_of 0x38 [e] rfl rfl
theorem EncodedLength.addHlSp : EncodedLength.Statement .addHlSp := encodedLength_of 0x39 [] rfl rfl
theorem EncodedLength.ldAAtHlDec : EncodedLength.Statement .ldAAtHlDec := encodedLength_of 0x3A [] rfl rfl
theorem EncodedLength.decSp : EncodedLength.Statement .decSp := encodedLength_of 0x3B [] rfl rfl
theorem EncodedLength.incA : EncodedLength.Statement .incA := encodedLength_of 0x3C [] rfl rfl
theorem EncodedLength.decA : EncodedLength.Statement .decA := encodedLength_of 0x3D [] rfl rfl
theorem EncodedLength.ldAN8 (n : Byte) : EncodedLength.Statement (.ldAN8 n) := encodedLength_of 0x3E [n] rfl rfl
theorem EncodedLength.ccf : EncodedLength.Statement .ccf := encodedLength_of 0x3F [] rfl rfl
theorem EncodedLength.ldBB : EncodedLength.Statement .ldBB := encodedLength_of 0x40 [] rfl rfl
theorem EncodedLength.ldBC : EncodedLength.Statement .ldBC := encodedLength_of 0x41 [] rfl rfl
theorem EncodedLength.ldBD : EncodedLength.Statement .ldBD := encodedLength_of 0x42 [] rfl rfl
theorem EncodedLength.ldBE : EncodedLength.Statement .ldBE := encodedLength_of 0x43 [] rfl rfl
theorem EncodedLength.ldBH : EncodedLength.Statement .ldBH := encodedLength_of 0x44 [] rfl rfl
theorem EncodedLength.ldBL : EncodedLength.Statement .ldBL := encodedLength_of 0x45 [] rfl rfl
theorem EncodedLength.ldBAtHl : EncodedLength.Statement .ldBAtHl := encodedLength_of 0x46 [] rfl rfl
theorem EncodedLength.ldBA : EncodedLength.Statement .ldBA := encodedLength_of 0x47 [] rfl rfl
theorem EncodedLength.ldCB : EncodedLength.Statement .ldCB := encodedLength_of 0x48 [] rfl rfl
theorem EncodedLength.ldCC : EncodedLength.Statement .ldCC := encodedLength_of 0x49 [] rfl rfl
theorem EncodedLength.ldCD : EncodedLength.Statement .ldCD := encodedLength_of 0x4A [] rfl rfl
theorem EncodedLength.ldCE : EncodedLength.Statement .ldCE := encodedLength_of 0x4B [] rfl rfl
theorem EncodedLength.ldCH : EncodedLength.Statement .ldCH := encodedLength_of 0x4C [] rfl rfl
theorem EncodedLength.ldCL : EncodedLength.Statement .ldCL := encodedLength_of 0x4D [] rfl rfl
theorem EncodedLength.ldCAtHl : EncodedLength.Statement .ldCAtHl := encodedLength_of 0x4E [] rfl rfl
theorem EncodedLength.ldCA : EncodedLength.Statement .ldCA := encodedLength_of 0x4F [] rfl rfl
theorem EncodedLength.ldDB : EncodedLength.Statement .ldDB := encodedLength_of 0x50 [] rfl rfl
theorem EncodedLength.ldDC : EncodedLength.Statement .ldDC := encodedLength_of 0x51 [] rfl rfl
theorem EncodedLength.ldDD : EncodedLength.Statement .ldDD := encodedLength_of 0x52 [] rfl rfl
theorem EncodedLength.ldDE : EncodedLength.Statement .ldDE := encodedLength_of 0x53 [] rfl rfl
theorem EncodedLength.ldDH : EncodedLength.Statement .ldDH := encodedLength_of 0x54 [] rfl rfl
theorem EncodedLength.ldDL : EncodedLength.Statement .ldDL := encodedLength_of 0x55 [] rfl rfl
theorem EncodedLength.ldDAtHl : EncodedLength.Statement .ldDAtHl := encodedLength_of 0x56 [] rfl rfl
theorem EncodedLength.ldDA : EncodedLength.Statement .ldDA := encodedLength_of 0x57 [] rfl rfl
theorem EncodedLength.ldEB : EncodedLength.Statement .ldEB := encodedLength_of 0x58 [] rfl rfl
theorem EncodedLength.ldEC : EncodedLength.Statement .ldEC := encodedLength_of 0x59 [] rfl rfl
theorem EncodedLength.ldED : EncodedLength.Statement .ldED := encodedLength_of 0x5A [] rfl rfl
theorem EncodedLength.ldEE : EncodedLength.Statement .ldEE := encodedLength_of 0x5B [] rfl rfl
theorem EncodedLength.ldEH : EncodedLength.Statement .ldEH := encodedLength_of 0x5C [] rfl rfl
theorem EncodedLength.ldEL : EncodedLength.Statement .ldEL := encodedLength_of 0x5D [] rfl rfl
theorem EncodedLength.ldEAtHl : EncodedLength.Statement .ldEAtHl := encodedLength_of 0x5E [] rfl rfl
theorem EncodedLength.ldEA : EncodedLength.Statement .ldEA := encodedLength_of 0x5F [] rfl rfl
theorem EncodedLength.ldHB : EncodedLength.Statement .ldHB := encodedLength_of 0x60 [] rfl rfl
theorem EncodedLength.ldHC : EncodedLength.Statement .ldHC := encodedLength_of 0x61 [] rfl rfl
theorem EncodedLength.ldHD : EncodedLength.Statement .ldHD := encodedLength_of 0x62 [] rfl rfl
theorem EncodedLength.ldHE : EncodedLength.Statement .ldHE := encodedLength_of 0x63 [] rfl rfl
theorem EncodedLength.ldHH : EncodedLength.Statement .ldHH := encodedLength_of 0x64 [] rfl rfl
theorem EncodedLength.ldHL : EncodedLength.Statement .ldHL := encodedLength_of 0x65 [] rfl rfl
theorem EncodedLength.ldHAtHl : EncodedLength.Statement .ldHAtHl := encodedLength_of 0x66 [] rfl rfl
theorem EncodedLength.ldHA : EncodedLength.Statement .ldHA := encodedLength_of 0x67 [] rfl rfl
theorem EncodedLength.ldLB : EncodedLength.Statement .ldLB := encodedLength_of 0x68 [] rfl rfl
theorem EncodedLength.ldLC : EncodedLength.Statement .ldLC := encodedLength_of 0x69 [] rfl rfl
theorem EncodedLength.ldLD : EncodedLength.Statement .ldLD := encodedLength_of 0x6A [] rfl rfl
theorem EncodedLength.ldLE : EncodedLength.Statement .ldLE := encodedLength_of 0x6B [] rfl rfl
theorem EncodedLength.ldLH : EncodedLength.Statement .ldLH := encodedLength_of 0x6C [] rfl rfl
theorem EncodedLength.ldLL : EncodedLength.Statement .ldLL := encodedLength_of 0x6D [] rfl rfl
theorem EncodedLength.ldLAtHl : EncodedLength.Statement .ldLAtHl := encodedLength_of 0x6E [] rfl rfl
theorem EncodedLength.ldLA : EncodedLength.Statement .ldLA := encodedLength_of 0x6F [] rfl rfl
theorem EncodedLength.ldAtHlB : EncodedLength.Statement .ldAtHlB := encodedLength_of 0x70 [] rfl rfl
theorem EncodedLength.ldAtHlC : EncodedLength.Statement .ldAtHlC := encodedLength_of 0x71 [] rfl rfl
theorem EncodedLength.ldAtHlD : EncodedLength.Statement .ldAtHlD := encodedLength_of 0x72 [] rfl rfl
theorem EncodedLength.ldAtHlE : EncodedLength.Statement .ldAtHlE := encodedLength_of 0x73 [] rfl rfl
theorem EncodedLength.ldAtHlH : EncodedLength.Statement .ldAtHlH := encodedLength_of 0x74 [] rfl rfl
theorem EncodedLength.ldAtHlL : EncodedLength.Statement .ldAtHlL := encodedLength_of 0x75 [] rfl rfl
theorem EncodedLength.halt : EncodedLength.Statement .halt := encodedLength_of 0x76 [] rfl rfl
theorem EncodedLength.ldAtHlA : EncodedLength.Statement .ldAtHlA := encodedLength_of 0x77 [] rfl rfl
theorem EncodedLength.ldAB : EncodedLength.Statement .ldAB := encodedLength_of 0x78 [] rfl rfl
theorem EncodedLength.ldAC : EncodedLength.Statement .ldAC := encodedLength_of 0x79 [] rfl rfl
theorem EncodedLength.ldAD : EncodedLength.Statement .ldAD := encodedLength_of 0x7A [] rfl rfl
theorem EncodedLength.ldAE : EncodedLength.Statement .ldAE := encodedLength_of 0x7B [] rfl rfl
theorem EncodedLength.ldAH : EncodedLength.Statement .ldAH := encodedLength_of 0x7C [] rfl rfl
theorem EncodedLength.ldAL : EncodedLength.Statement .ldAL := encodedLength_of 0x7D [] rfl rfl
theorem EncodedLength.ldAAtHl : EncodedLength.Statement .ldAAtHl := encodedLength_of 0x7E [] rfl rfl
theorem EncodedLength.ldAA : EncodedLength.Statement .ldAA := encodedLength_of 0x7F [] rfl rfl
theorem EncodedLength.addAB : EncodedLength.Statement .addAB := encodedLength_of 0x80 [] rfl rfl
theorem EncodedLength.addAC : EncodedLength.Statement .addAC := encodedLength_of 0x81 [] rfl rfl
theorem EncodedLength.addAD : EncodedLength.Statement .addAD := encodedLength_of 0x82 [] rfl rfl
theorem EncodedLength.addAE : EncodedLength.Statement .addAE := encodedLength_of 0x83 [] rfl rfl
theorem EncodedLength.addAH : EncodedLength.Statement .addAH := encodedLength_of 0x84 [] rfl rfl
theorem EncodedLength.addAL : EncodedLength.Statement .addAL := encodedLength_of 0x85 [] rfl rfl
theorem EncodedLength.addAAtHl : EncodedLength.Statement .addAAtHl := encodedLength_of 0x86 [] rfl rfl
theorem EncodedLength.addAA : EncodedLength.Statement .addAA := encodedLength_of 0x87 [] rfl rfl
theorem EncodedLength.adcAB : EncodedLength.Statement .adcAB := encodedLength_of 0x88 [] rfl rfl
theorem EncodedLength.adcAC : EncodedLength.Statement .adcAC := encodedLength_of 0x89 [] rfl rfl
theorem EncodedLength.adcAD : EncodedLength.Statement .adcAD := encodedLength_of 0x8A [] rfl rfl
theorem EncodedLength.adcAE : EncodedLength.Statement .adcAE := encodedLength_of 0x8B [] rfl rfl
theorem EncodedLength.adcAH : EncodedLength.Statement .adcAH := encodedLength_of 0x8C [] rfl rfl
theorem EncodedLength.adcAL : EncodedLength.Statement .adcAL := encodedLength_of 0x8D [] rfl rfl
theorem EncodedLength.adcAAtHl : EncodedLength.Statement .adcAAtHl := encodedLength_of 0x8E [] rfl rfl
theorem EncodedLength.adcAA : EncodedLength.Statement .adcAA := encodedLength_of 0x8F [] rfl rfl
theorem EncodedLength.subAB : EncodedLength.Statement .subAB := encodedLength_of 0x90 [] rfl rfl
theorem EncodedLength.subAC : EncodedLength.Statement .subAC := encodedLength_of 0x91 [] rfl rfl
theorem EncodedLength.subAD : EncodedLength.Statement .subAD := encodedLength_of 0x92 [] rfl rfl
theorem EncodedLength.subAE : EncodedLength.Statement .subAE := encodedLength_of 0x93 [] rfl rfl
theorem EncodedLength.subAH : EncodedLength.Statement .subAH := encodedLength_of 0x94 [] rfl rfl
theorem EncodedLength.subAL : EncodedLength.Statement .subAL := encodedLength_of 0x95 [] rfl rfl
theorem EncodedLength.subAAtHl : EncodedLength.Statement .subAAtHl := encodedLength_of 0x96 [] rfl rfl
theorem EncodedLength.subAA : EncodedLength.Statement .subAA := encodedLength_of 0x97 [] rfl rfl
theorem EncodedLength.sbcAB : EncodedLength.Statement .sbcAB := encodedLength_of 0x98 [] rfl rfl
theorem EncodedLength.sbcAC : EncodedLength.Statement .sbcAC := encodedLength_of 0x99 [] rfl rfl
theorem EncodedLength.sbcAD : EncodedLength.Statement .sbcAD := encodedLength_of 0x9A [] rfl rfl
theorem EncodedLength.sbcAE : EncodedLength.Statement .sbcAE := encodedLength_of 0x9B [] rfl rfl
theorem EncodedLength.sbcAH : EncodedLength.Statement .sbcAH := encodedLength_of 0x9C [] rfl rfl
theorem EncodedLength.sbcAL : EncodedLength.Statement .sbcAL := encodedLength_of 0x9D [] rfl rfl
theorem EncodedLength.sbcAAtHl : EncodedLength.Statement .sbcAAtHl := encodedLength_of 0x9E [] rfl rfl
theorem EncodedLength.sbcAA : EncodedLength.Statement .sbcAA := encodedLength_of 0x9F [] rfl rfl
theorem EncodedLength.andAB : EncodedLength.Statement .andAB := encodedLength_of 0xA0 [] rfl rfl
theorem EncodedLength.andAC : EncodedLength.Statement .andAC := encodedLength_of 0xA1 [] rfl rfl
theorem EncodedLength.andAD : EncodedLength.Statement .andAD := encodedLength_of 0xA2 [] rfl rfl
theorem EncodedLength.andAE : EncodedLength.Statement .andAE := encodedLength_of 0xA3 [] rfl rfl
theorem EncodedLength.andAH : EncodedLength.Statement .andAH := encodedLength_of 0xA4 [] rfl rfl
theorem EncodedLength.andAL : EncodedLength.Statement .andAL := encodedLength_of 0xA5 [] rfl rfl
theorem EncodedLength.andAAtHl : EncodedLength.Statement .andAAtHl := encodedLength_of 0xA6 [] rfl rfl
theorem EncodedLength.andAA : EncodedLength.Statement .andAA := encodedLength_of 0xA7 [] rfl rfl
theorem EncodedLength.xorAB : EncodedLength.Statement .xorAB := encodedLength_of 0xA8 [] rfl rfl
theorem EncodedLength.xorAC : EncodedLength.Statement .xorAC := encodedLength_of 0xA9 [] rfl rfl
theorem EncodedLength.xorAD : EncodedLength.Statement .xorAD := encodedLength_of 0xAA [] rfl rfl
theorem EncodedLength.xorAE : EncodedLength.Statement .xorAE := encodedLength_of 0xAB [] rfl rfl
theorem EncodedLength.xorAH : EncodedLength.Statement .xorAH := encodedLength_of 0xAC [] rfl rfl
theorem EncodedLength.xorAL : EncodedLength.Statement .xorAL := encodedLength_of 0xAD [] rfl rfl
theorem EncodedLength.xorAAtHl : EncodedLength.Statement .xorAAtHl := encodedLength_of 0xAE [] rfl rfl
theorem EncodedLength.xorAA : EncodedLength.Statement .xorAA := encodedLength_of 0xAF [] rfl rfl
theorem EncodedLength.orAB : EncodedLength.Statement .orAB := encodedLength_of 0xB0 [] rfl rfl
theorem EncodedLength.orAC : EncodedLength.Statement .orAC := encodedLength_of 0xB1 [] rfl rfl
theorem EncodedLength.orAD : EncodedLength.Statement .orAD := encodedLength_of 0xB2 [] rfl rfl
theorem EncodedLength.orAE : EncodedLength.Statement .orAE := encodedLength_of 0xB3 [] rfl rfl
theorem EncodedLength.orAH : EncodedLength.Statement .orAH := encodedLength_of 0xB4 [] rfl rfl
theorem EncodedLength.orAL : EncodedLength.Statement .orAL := encodedLength_of 0xB5 [] rfl rfl
theorem EncodedLength.orAAtHl : EncodedLength.Statement .orAAtHl := encodedLength_of 0xB6 [] rfl rfl
theorem EncodedLength.orAA : EncodedLength.Statement .orAA := encodedLength_of 0xB7 [] rfl rfl
theorem EncodedLength.cpAB : EncodedLength.Statement .cpAB := encodedLength_of 0xB8 [] rfl rfl
theorem EncodedLength.cpAC : EncodedLength.Statement .cpAC := encodedLength_of 0xB9 [] rfl rfl
theorem EncodedLength.cpAD : EncodedLength.Statement .cpAD := encodedLength_of 0xBA [] rfl rfl
theorem EncodedLength.cpAE : EncodedLength.Statement .cpAE := encodedLength_of 0xBB [] rfl rfl
theorem EncodedLength.cpAH : EncodedLength.Statement .cpAH := encodedLength_of 0xBC [] rfl rfl
theorem EncodedLength.cpAL : EncodedLength.Statement .cpAL := encodedLength_of 0xBD [] rfl rfl
theorem EncodedLength.cpAAtHl : EncodedLength.Statement .cpAAtHl := encodedLength_of 0xBE [] rfl rfl
theorem EncodedLength.cpAA : EncodedLength.Statement .cpAA := encodedLength_of 0xBF [] rfl rfl
theorem EncodedLength.retNz : EncodedLength.Statement .retNz := encodedLength_of 0xC0 [] rfl rfl
theorem EncodedLength.popBc : EncodedLength.Statement .popBc := encodedLength_of 0xC1 [] rfl rfl
theorem EncodedLength.jpNzN16 (n : Word) : EncodedLength.Statement (.jpNzN16 n) := encodedLength_of 0xC2 [loByte n, hiByte n] rfl rfl
theorem EncodedLength.jpN16 (n : Word) : EncodedLength.Statement (.jpN16 n) := encodedLength_of 0xC3 [loByte n, hiByte n] rfl rfl
theorem EncodedLength.callNzN16 (n : Word) : EncodedLength.Statement (.callNzN16 n) := encodedLength_of 0xC4 [loByte n, hiByte n] rfl rfl
theorem EncodedLength.pushBc : EncodedLength.Statement .pushBc := encodedLength_of 0xC5 [] rfl rfl
theorem EncodedLength.addAN8 (n : Byte) : EncodedLength.Statement (.addAN8 n) := encodedLength_of 0xC6 [n] rfl rfl
theorem EncodedLength.rst00 : EncodedLength.Statement .rst00 := encodedLength_of 0xC7 [] rfl rfl
theorem EncodedLength.retZ : EncodedLength.Statement .retZ := encodedLength_of 0xC8 [] rfl rfl
theorem EncodedLength.ret : EncodedLength.Statement .ret := encodedLength_of 0xC9 [] rfl rfl
theorem EncodedLength.jpZN16 (n : Word) : EncodedLength.Statement (.jpZN16 n) := encodedLength_of 0xCA [loByte n, hiByte n] rfl rfl
theorem EncodedLength.callZN16 (n : Word) : EncodedLength.Statement (.callZN16 n) := encodedLength_of 0xCC [loByte n, hiByte n] rfl rfl
theorem EncodedLength.callN16 (n : Word) : EncodedLength.Statement (.callN16 n) := encodedLength_of 0xCD [loByte n, hiByte n] rfl rfl
theorem EncodedLength.adcAN8 (n : Byte) : EncodedLength.Statement (.adcAN8 n) := encodedLength_of 0xCE [n] rfl rfl
theorem EncodedLength.rst08 : EncodedLength.Statement .rst08 := encodedLength_of 0xCF [] rfl rfl
theorem EncodedLength.retNc : EncodedLength.Statement .retNc := encodedLength_of 0xD0 [] rfl rfl
theorem EncodedLength.popDe : EncodedLength.Statement .popDe := encodedLength_of 0xD1 [] rfl rfl
theorem EncodedLength.jpNcN16 (n : Word) : EncodedLength.Statement (.jpNcN16 n) := encodedLength_of 0xD2 [loByte n, hiByte n] rfl rfl
theorem EncodedLength.unassignedD3 : EncodedLength.Statement .unassignedD3 := encodedLength_of 0xD3 [] rfl rfl
theorem EncodedLength.callNcN16 (n : Word) : EncodedLength.Statement (.callNcN16 n) := encodedLength_of 0xD4 [loByte n, hiByte n] rfl rfl
theorem EncodedLength.pushDe : EncodedLength.Statement .pushDe := encodedLength_of 0xD5 [] rfl rfl
theorem EncodedLength.subAN8 (n : Byte) : EncodedLength.Statement (.subAN8 n) := encodedLength_of 0xD6 [n] rfl rfl
theorem EncodedLength.rst10 : EncodedLength.Statement .rst10 := encodedLength_of 0xD7 [] rfl rfl
theorem EncodedLength.retC : EncodedLength.Statement .retC := encodedLength_of 0xD8 [] rfl rfl
theorem EncodedLength.reti : EncodedLength.Statement .reti := encodedLength_of 0xD9 [] rfl rfl
theorem EncodedLength.jpCN16 (n : Word) : EncodedLength.Statement (.jpCN16 n) := encodedLength_of 0xDA [loByte n, hiByte n] rfl rfl
theorem EncodedLength.unassignedDB : EncodedLength.Statement .unassignedDB := encodedLength_of 0xDB [] rfl rfl
theorem EncodedLength.callCN16 (n : Word) : EncodedLength.Statement (.callCN16 n) := encodedLength_of 0xDC [loByte n, hiByte n] rfl rfl
theorem EncodedLength.unassignedDD : EncodedLength.Statement .unassignedDD := encodedLength_of 0xDD [] rfl rfl
theorem EncodedLength.sbcAN8 (n : Byte) : EncodedLength.Statement (.sbcAN8 n) := encodedLength_of 0xDE [n] rfl rfl
theorem EncodedLength.rst18 : EncodedLength.Statement .rst18 := encodedLength_of 0xDF [] rfl rfl
theorem EncodedLength.ldhAtN8A (n : Byte) : EncodedLength.Statement (.ldhAtN8A n) := encodedLength_of 0xE0 [n] rfl rfl
theorem EncodedLength.popHl : EncodedLength.Statement .popHl := encodedLength_of 0xE1 [] rfl rfl
theorem EncodedLength.ldAtCA : EncodedLength.Statement .ldAtCA := encodedLength_of 0xE2 [] rfl rfl
theorem EncodedLength.unassignedE3 : EncodedLength.Statement .unassignedE3 := encodedLength_of 0xE3 [] rfl rfl
theorem EncodedLength.unassignedE4 : EncodedLength.Statement .unassignedE4 := encodedLength_of 0xE4 [] rfl rfl
theorem EncodedLength.pushHl : EncodedLength.Statement .pushHl := encodedLength_of 0xE5 [] rfl rfl
theorem EncodedLength.andAN8 (n : Byte) : EncodedLength.Statement (.andAN8 n) := encodedLength_of 0xE6 [n] rfl rfl
theorem EncodedLength.rst20 : EncodedLength.Statement .rst20 := encodedLength_of 0xE7 [] rfl rfl
theorem EncodedLength.addSpE8 (e : Byte) : EncodedLength.Statement (.addSpE8 e) := encodedLength_of 0xE8 [e] rfl rfl
theorem EncodedLength.jpHl : EncodedLength.Statement .jpHl := encodedLength_of 0xE9 [] rfl rfl
theorem EncodedLength.ldAtN16A (n : Word) : EncodedLength.Statement (.ldAtN16A n) := encodedLength_of 0xEA [loByte n, hiByte n] rfl rfl
theorem EncodedLength.unassignedEB : EncodedLength.Statement .unassignedEB := encodedLength_of 0xEB [] rfl rfl
theorem EncodedLength.unassignedEC : EncodedLength.Statement .unassignedEC := encodedLength_of 0xEC [] rfl rfl
theorem EncodedLength.unassignedED : EncodedLength.Statement .unassignedED := encodedLength_of 0xED [] rfl rfl
theorem EncodedLength.xorAN8 (n : Byte) : EncodedLength.Statement (.xorAN8 n) := encodedLength_of 0xEE [n] rfl rfl
theorem EncodedLength.rst28 : EncodedLength.Statement .rst28 := encodedLength_of 0xEF [] rfl rfl
theorem EncodedLength.ldhAAtN8 (n : Byte) : EncodedLength.Statement (.ldhAAtN8 n) := encodedLength_of 0xF0 [n] rfl rfl
theorem EncodedLength.popAf : EncodedLength.Statement .popAf := encodedLength_of 0xF1 [] rfl rfl
theorem EncodedLength.ldAAtC : EncodedLength.Statement .ldAAtC := encodedLength_of 0xF2 [] rfl rfl
theorem EncodedLength.di : EncodedLength.Statement .di := encodedLength_of 0xF3 [] rfl rfl
theorem EncodedLength.unassignedF4 : EncodedLength.Statement .unassignedF4 := encodedLength_of 0xF4 [] rfl rfl
theorem EncodedLength.pushAf : EncodedLength.Statement .pushAf := encodedLength_of 0xF5 [] rfl rfl
theorem EncodedLength.orAN8 (n : Byte) : EncodedLength.Statement (.orAN8 n) := encodedLength_of 0xF6 [n] rfl rfl
theorem EncodedLength.rst30 : EncodedLength.Statement .rst30 := encodedLength_of 0xF7 [] rfl rfl
theorem EncodedLength.ldHlSpE8 (e : Byte) : EncodedLength.Statement (.ldHlSpE8 e) := encodedLength_of 0xF8 [e] rfl rfl
theorem EncodedLength.ldSpHl : EncodedLength.Statement .ldSpHl := encodedLength_of 0xF9 [] rfl rfl
theorem EncodedLength.ldAAtN16 (n : Word) : EncodedLength.Statement (.ldAAtN16 n) := encodedLength_of 0xFA [loByte n, hiByte n] rfl rfl
theorem EncodedLength.ei : EncodedLength.Statement .ei := encodedLength_of 0xFB [] rfl rfl
theorem EncodedLength.unassignedFC : EncodedLength.Statement .unassignedFC := encodedLength_of 0xFC [] rfl rfl
theorem EncodedLength.unassignedFD : EncodedLength.Statement .unassignedFD := encodedLength_of 0xFD [] rfl rfl
theorem EncodedLength.cpAN8 (n : Byte) : EncodedLength.Statement (.cpAN8 n) := encodedLength_of 0xFE [n] rfl rfl
theorem EncodedLength.rst38 : EncodedLength.Statement .rst38 := encodedLength_of 0xFF [] rfl rfl
theorem EncodedLength.rlcB : EncodedLength.Statement .rlcB := encodedLength_of 0xCB [0x00] rfl rfl
theorem EncodedLength.rlcC : EncodedLength.Statement .rlcC := encodedLength_of 0xCB [0x01] rfl rfl
theorem EncodedLength.rlcD : EncodedLength.Statement .rlcD := encodedLength_of 0xCB [0x02] rfl rfl
theorem EncodedLength.rlcE : EncodedLength.Statement .rlcE := encodedLength_of 0xCB [0x03] rfl rfl
theorem EncodedLength.rlcH : EncodedLength.Statement .rlcH := encodedLength_of 0xCB [0x04] rfl rfl
theorem EncodedLength.rlcL : EncodedLength.Statement .rlcL := encodedLength_of 0xCB [0x05] rfl rfl
theorem EncodedLength.rlcAtHl : EncodedLength.Statement .rlcAtHl := encodedLength_of 0xCB [0x06] rfl rfl
theorem EncodedLength.rlcA : EncodedLength.Statement .rlcA := encodedLength_of 0xCB [0x07] rfl rfl
theorem EncodedLength.rrcB : EncodedLength.Statement .rrcB := encodedLength_of 0xCB [0x08] rfl rfl
theorem EncodedLength.rrcC : EncodedLength.Statement .rrcC := encodedLength_of 0xCB [0x09] rfl rfl
theorem EncodedLength.rrcD : EncodedLength.Statement .rrcD := encodedLength_of 0xCB [0x0A] rfl rfl
theorem EncodedLength.rrcE : EncodedLength.Statement .rrcE := encodedLength_of 0xCB [0x0B] rfl rfl
theorem EncodedLength.rrcH : EncodedLength.Statement .rrcH := encodedLength_of 0xCB [0x0C] rfl rfl
theorem EncodedLength.rrcL : EncodedLength.Statement .rrcL := encodedLength_of 0xCB [0x0D] rfl rfl
theorem EncodedLength.rrcAtHl : EncodedLength.Statement .rrcAtHl := encodedLength_of 0xCB [0x0E] rfl rfl
theorem EncodedLength.rrcA : EncodedLength.Statement .rrcA := encodedLength_of 0xCB [0x0F] rfl rfl
theorem EncodedLength.rlB : EncodedLength.Statement .rlB := encodedLength_of 0xCB [0x10] rfl rfl
theorem EncodedLength.rlC : EncodedLength.Statement .rlC := encodedLength_of 0xCB [0x11] rfl rfl
theorem EncodedLength.rlD : EncodedLength.Statement .rlD := encodedLength_of 0xCB [0x12] rfl rfl
theorem EncodedLength.rlE : EncodedLength.Statement .rlE := encodedLength_of 0xCB [0x13] rfl rfl
theorem EncodedLength.rlH : EncodedLength.Statement .rlH := encodedLength_of 0xCB [0x14] rfl rfl
theorem EncodedLength.rlL : EncodedLength.Statement .rlL := encodedLength_of 0xCB [0x15] rfl rfl
theorem EncodedLength.rlAtHl : EncodedLength.Statement .rlAtHl := encodedLength_of 0xCB [0x16] rfl rfl
theorem EncodedLength.rlA : EncodedLength.Statement .rlA := encodedLength_of 0xCB [0x17] rfl rfl
theorem EncodedLength.rrB : EncodedLength.Statement .rrB := encodedLength_of 0xCB [0x18] rfl rfl
theorem EncodedLength.rrC : EncodedLength.Statement .rrC := encodedLength_of 0xCB [0x19] rfl rfl
theorem EncodedLength.rrD : EncodedLength.Statement .rrD := encodedLength_of 0xCB [0x1A] rfl rfl
theorem EncodedLength.rrE : EncodedLength.Statement .rrE := encodedLength_of 0xCB [0x1B] rfl rfl
theorem EncodedLength.rrH : EncodedLength.Statement .rrH := encodedLength_of 0xCB [0x1C] rfl rfl
theorem EncodedLength.rrL : EncodedLength.Statement .rrL := encodedLength_of 0xCB [0x1D] rfl rfl
theorem EncodedLength.rrAtHl : EncodedLength.Statement .rrAtHl := encodedLength_of 0xCB [0x1E] rfl rfl
theorem EncodedLength.rrA : EncodedLength.Statement .rrA := encodedLength_of 0xCB [0x1F] rfl rfl
theorem EncodedLength.slaB : EncodedLength.Statement .slaB := encodedLength_of 0xCB [0x20] rfl rfl
theorem EncodedLength.slaC : EncodedLength.Statement .slaC := encodedLength_of 0xCB [0x21] rfl rfl
theorem EncodedLength.slaD : EncodedLength.Statement .slaD := encodedLength_of 0xCB [0x22] rfl rfl
theorem EncodedLength.slaE : EncodedLength.Statement .slaE := encodedLength_of 0xCB [0x23] rfl rfl
theorem EncodedLength.slaH : EncodedLength.Statement .slaH := encodedLength_of 0xCB [0x24] rfl rfl
theorem EncodedLength.slaL : EncodedLength.Statement .slaL := encodedLength_of 0xCB [0x25] rfl rfl
theorem EncodedLength.slaAtHl : EncodedLength.Statement .slaAtHl := encodedLength_of 0xCB [0x26] rfl rfl
theorem EncodedLength.slaA : EncodedLength.Statement .slaA := encodedLength_of 0xCB [0x27] rfl rfl
theorem EncodedLength.sraB : EncodedLength.Statement .sraB := encodedLength_of 0xCB [0x28] rfl rfl
theorem EncodedLength.sraC : EncodedLength.Statement .sraC := encodedLength_of 0xCB [0x29] rfl rfl
theorem EncodedLength.sraD : EncodedLength.Statement .sraD := encodedLength_of 0xCB [0x2A] rfl rfl
theorem EncodedLength.sraE : EncodedLength.Statement .sraE := encodedLength_of 0xCB [0x2B] rfl rfl
theorem EncodedLength.sraH : EncodedLength.Statement .sraH := encodedLength_of 0xCB [0x2C] rfl rfl
theorem EncodedLength.sraL : EncodedLength.Statement .sraL := encodedLength_of 0xCB [0x2D] rfl rfl
theorem EncodedLength.sraAtHl : EncodedLength.Statement .sraAtHl := encodedLength_of 0xCB [0x2E] rfl rfl
theorem EncodedLength.sraA : EncodedLength.Statement .sraA := encodedLength_of 0xCB [0x2F] rfl rfl
theorem EncodedLength.swapB : EncodedLength.Statement .swapB := encodedLength_of 0xCB [0x30] rfl rfl
theorem EncodedLength.swapC : EncodedLength.Statement .swapC := encodedLength_of 0xCB [0x31] rfl rfl
theorem EncodedLength.swapD : EncodedLength.Statement .swapD := encodedLength_of 0xCB [0x32] rfl rfl
theorem EncodedLength.swapE : EncodedLength.Statement .swapE := encodedLength_of 0xCB [0x33] rfl rfl
theorem EncodedLength.swapH : EncodedLength.Statement .swapH := encodedLength_of 0xCB [0x34] rfl rfl
theorem EncodedLength.swapL : EncodedLength.Statement .swapL := encodedLength_of 0xCB [0x35] rfl rfl
theorem EncodedLength.swapAtHl : EncodedLength.Statement .swapAtHl := encodedLength_of 0xCB [0x36] rfl rfl
theorem EncodedLength.swapA : EncodedLength.Statement .swapA := encodedLength_of 0xCB [0x37] rfl rfl
theorem EncodedLength.srlB : EncodedLength.Statement .srlB := encodedLength_of 0xCB [0x38] rfl rfl
theorem EncodedLength.srlC : EncodedLength.Statement .srlC := encodedLength_of 0xCB [0x39] rfl rfl
theorem EncodedLength.srlD : EncodedLength.Statement .srlD := encodedLength_of 0xCB [0x3A] rfl rfl
theorem EncodedLength.srlE : EncodedLength.Statement .srlE := encodedLength_of 0xCB [0x3B] rfl rfl
theorem EncodedLength.srlH : EncodedLength.Statement .srlH := encodedLength_of 0xCB [0x3C] rfl rfl
theorem EncodedLength.srlL : EncodedLength.Statement .srlL := encodedLength_of 0xCB [0x3D] rfl rfl
theorem EncodedLength.srlAtHl : EncodedLength.Statement .srlAtHl := encodedLength_of 0xCB [0x3E] rfl rfl
theorem EncodedLength.srlA : EncodedLength.Statement .srlA := encodedLength_of 0xCB [0x3F] rfl rfl
theorem EncodedLength.bit0B : EncodedLength.Statement .bit0B := encodedLength_of 0xCB [0x40] rfl rfl
theorem EncodedLength.bit0C : EncodedLength.Statement .bit0C := encodedLength_of 0xCB [0x41] rfl rfl
theorem EncodedLength.bit0D : EncodedLength.Statement .bit0D := encodedLength_of 0xCB [0x42] rfl rfl
theorem EncodedLength.bit0E : EncodedLength.Statement .bit0E := encodedLength_of 0xCB [0x43] rfl rfl
theorem EncodedLength.bit0H : EncodedLength.Statement .bit0H := encodedLength_of 0xCB [0x44] rfl rfl
theorem EncodedLength.bit0L : EncodedLength.Statement .bit0L := encodedLength_of 0xCB [0x45] rfl rfl
theorem EncodedLength.bit0AtHl : EncodedLength.Statement .bit0AtHl := encodedLength_of 0xCB [0x46] rfl rfl
theorem EncodedLength.bit0A : EncodedLength.Statement .bit0A := encodedLength_of 0xCB [0x47] rfl rfl
theorem EncodedLength.bit1B : EncodedLength.Statement .bit1B := encodedLength_of 0xCB [0x48] rfl rfl
theorem EncodedLength.bit1C : EncodedLength.Statement .bit1C := encodedLength_of 0xCB [0x49] rfl rfl
theorem EncodedLength.bit1D : EncodedLength.Statement .bit1D := encodedLength_of 0xCB [0x4A] rfl rfl
theorem EncodedLength.bit1E : EncodedLength.Statement .bit1E := encodedLength_of 0xCB [0x4B] rfl rfl
theorem EncodedLength.bit1H : EncodedLength.Statement .bit1H := encodedLength_of 0xCB [0x4C] rfl rfl
theorem EncodedLength.bit1L : EncodedLength.Statement .bit1L := encodedLength_of 0xCB [0x4D] rfl rfl
theorem EncodedLength.bit1AtHl : EncodedLength.Statement .bit1AtHl := encodedLength_of 0xCB [0x4E] rfl rfl
theorem EncodedLength.bit1A : EncodedLength.Statement .bit1A := encodedLength_of 0xCB [0x4F] rfl rfl
theorem EncodedLength.bit2B : EncodedLength.Statement .bit2B := encodedLength_of 0xCB [0x50] rfl rfl
theorem EncodedLength.bit2C : EncodedLength.Statement .bit2C := encodedLength_of 0xCB [0x51] rfl rfl
theorem EncodedLength.bit2D : EncodedLength.Statement .bit2D := encodedLength_of 0xCB [0x52] rfl rfl
theorem EncodedLength.bit2E : EncodedLength.Statement .bit2E := encodedLength_of 0xCB [0x53] rfl rfl
theorem EncodedLength.bit2H : EncodedLength.Statement .bit2H := encodedLength_of 0xCB [0x54] rfl rfl
theorem EncodedLength.bit2L : EncodedLength.Statement .bit2L := encodedLength_of 0xCB [0x55] rfl rfl
theorem EncodedLength.bit2AtHl : EncodedLength.Statement .bit2AtHl := encodedLength_of 0xCB [0x56] rfl rfl
theorem EncodedLength.bit2A : EncodedLength.Statement .bit2A := encodedLength_of 0xCB [0x57] rfl rfl
theorem EncodedLength.bit3B : EncodedLength.Statement .bit3B := encodedLength_of 0xCB [0x58] rfl rfl
theorem EncodedLength.bit3C : EncodedLength.Statement .bit3C := encodedLength_of 0xCB [0x59] rfl rfl
theorem EncodedLength.bit3D : EncodedLength.Statement .bit3D := encodedLength_of 0xCB [0x5A] rfl rfl
theorem EncodedLength.bit3E : EncodedLength.Statement .bit3E := encodedLength_of 0xCB [0x5B] rfl rfl
theorem EncodedLength.bit3H : EncodedLength.Statement .bit3H := encodedLength_of 0xCB [0x5C] rfl rfl
theorem EncodedLength.bit3L : EncodedLength.Statement .bit3L := encodedLength_of 0xCB [0x5D] rfl rfl
theorem EncodedLength.bit3AtHl : EncodedLength.Statement .bit3AtHl := encodedLength_of 0xCB [0x5E] rfl rfl
theorem EncodedLength.bit3A : EncodedLength.Statement .bit3A := encodedLength_of 0xCB [0x5F] rfl rfl
theorem EncodedLength.bit4B : EncodedLength.Statement .bit4B := encodedLength_of 0xCB [0x60] rfl rfl
theorem EncodedLength.bit4C : EncodedLength.Statement .bit4C := encodedLength_of 0xCB [0x61] rfl rfl
theorem EncodedLength.bit4D : EncodedLength.Statement .bit4D := encodedLength_of 0xCB [0x62] rfl rfl
theorem EncodedLength.bit4E : EncodedLength.Statement .bit4E := encodedLength_of 0xCB [0x63] rfl rfl
theorem EncodedLength.bit4H : EncodedLength.Statement .bit4H := encodedLength_of 0xCB [0x64] rfl rfl
theorem EncodedLength.bit4L : EncodedLength.Statement .bit4L := encodedLength_of 0xCB [0x65] rfl rfl
theorem EncodedLength.bit4AtHl : EncodedLength.Statement .bit4AtHl := encodedLength_of 0xCB [0x66] rfl rfl
theorem EncodedLength.bit4A : EncodedLength.Statement .bit4A := encodedLength_of 0xCB [0x67] rfl rfl
theorem EncodedLength.bit5B : EncodedLength.Statement .bit5B := encodedLength_of 0xCB [0x68] rfl rfl
theorem EncodedLength.bit5C : EncodedLength.Statement .bit5C := encodedLength_of 0xCB [0x69] rfl rfl
theorem EncodedLength.bit5D : EncodedLength.Statement .bit5D := encodedLength_of 0xCB [0x6A] rfl rfl
theorem EncodedLength.bit5E : EncodedLength.Statement .bit5E := encodedLength_of 0xCB [0x6B] rfl rfl
theorem EncodedLength.bit5H : EncodedLength.Statement .bit5H := encodedLength_of 0xCB [0x6C] rfl rfl
theorem EncodedLength.bit5L : EncodedLength.Statement .bit5L := encodedLength_of 0xCB [0x6D] rfl rfl
theorem EncodedLength.bit5AtHl : EncodedLength.Statement .bit5AtHl := encodedLength_of 0xCB [0x6E] rfl rfl
theorem EncodedLength.bit5A : EncodedLength.Statement .bit5A := encodedLength_of 0xCB [0x6F] rfl rfl
theorem EncodedLength.bit6B : EncodedLength.Statement .bit6B := encodedLength_of 0xCB [0x70] rfl rfl
theorem EncodedLength.bit6C : EncodedLength.Statement .bit6C := encodedLength_of 0xCB [0x71] rfl rfl
theorem EncodedLength.bit6D : EncodedLength.Statement .bit6D := encodedLength_of 0xCB [0x72] rfl rfl
theorem EncodedLength.bit6E : EncodedLength.Statement .bit6E := encodedLength_of 0xCB [0x73] rfl rfl
theorem EncodedLength.bit6H : EncodedLength.Statement .bit6H := encodedLength_of 0xCB [0x74] rfl rfl
theorem EncodedLength.bit6L : EncodedLength.Statement .bit6L := encodedLength_of 0xCB [0x75] rfl rfl
theorem EncodedLength.bit6AtHl : EncodedLength.Statement .bit6AtHl := encodedLength_of 0xCB [0x76] rfl rfl
theorem EncodedLength.bit6A : EncodedLength.Statement .bit6A := encodedLength_of 0xCB [0x77] rfl rfl
theorem EncodedLength.bit7B : EncodedLength.Statement .bit7B := encodedLength_of 0xCB [0x78] rfl rfl
theorem EncodedLength.bit7C : EncodedLength.Statement .bit7C := encodedLength_of 0xCB [0x79] rfl rfl
theorem EncodedLength.bit7D : EncodedLength.Statement .bit7D := encodedLength_of 0xCB [0x7A] rfl rfl
theorem EncodedLength.bit7E : EncodedLength.Statement .bit7E := encodedLength_of 0xCB [0x7B] rfl rfl
theorem EncodedLength.bit7H : EncodedLength.Statement .bit7H := encodedLength_of 0xCB [0x7C] rfl rfl
theorem EncodedLength.bit7L : EncodedLength.Statement .bit7L := encodedLength_of 0xCB [0x7D] rfl rfl
theorem EncodedLength.bit7AtHl : EncodedLength.Statement .bit7AtHl := encodedLength_of 0xCB [0x7E] rfl rfl
theorem EncodedLength.bit7A : EncodedLength.Statement .bit7A := encodedLength_of 0xCB [0x7F] rfl rfl
theorem EncodedLength.res0B : EncodedLength.Statement .res0B := encodedLength_of 0xCB [0x80] rfl rfl
theorem EncodedLength.res0C : EncodedLength.Statement .res0C := encodedLength_of 0xCB [0x81] rfl rfl
theorem EncodedLength.res0D : EncodedLength.Statement .res0D := encodedLength_of 0xCB [0x82] rfl rfl
theorem EncodedLength.res0E : EncodedLength.Statement .res0E := encodedLength_of 0xCB [0x83] rfl rfl
theorem EncodedLength.res0H : EncodedLength.Statement .res0H := encodedLength_of 0xCB [0x84] rfl rfl
theorem EncodedLength.res0L : EncodedLength.Statement .res0L := encodedLength_of 0xCB [0x85] rfl rfl
theorem EncodedLength.res0AtHl : EncodedLength.Statement .res0AtHl := encodedLength_of 0xCB [0x86] rfl rfl
theorem EncodedLength.res0A : EncodedLength.Statement .res0A := encodedLength_of 0xCB [0x87] rfl rfl
theorem EncodedLength.res1B : EncodedLength.Statement .res1B := encodedLength_of 0xCB [0x88] rfl rfl
theorem EncodedLength.res1C : EncodedLength.Statement .res1C := encodedLength_of 0xCB [0x89] rfl rfl
theorem EncodedLength.res1D : EncodedLength.Statement .res1D := encodedLength_of 0xCB [0x8A] rfl rfl
theorem EncodedLength.res1E : EncodedLength.Statement .res1E := encodedLength_of 0xCB [0x8B] rfl rfl
theorem EncodedLength.res1H : EncodedLength.Statement .res1H := encodedLength_of 0xCB [0x8C] rfl rfl
theorem EncodedLength.res1L : EncodedLength.Statement .res1L := encodedLength_of 0xCB [0x8D] rfl rfl
theorem EncodedLength.res1AtHl : EncodedLength.Statement .res1AtHl := encodedLength_of 0xCB [0x8E] rfl rfl
theorem EncodedLength.res1A : EncodedLength.Statement .res1A := encodedLength_of 0xCB [0x8F] rfl rfl
theorem EncodedLength.res2B : EncodedLength.Statement .res2B := encodedLength_of 0xCB [0x90] rfl rfl
theorem EncodedLength.res2C : EncodedLength.Statement .res2C := encodedLength_of 0xCB [0x91] rfl rfl
theorem EncodedLength.res2D : EncodedLength.Statement .res2D := encodedLength_of 0xCB [0x92] rfl rfl
theorem EncodedLength.res2E : EncodedLength.Statement .res2E := encodedLength_of 0xCB [0x93] rfl rfl
theorem EncodedLength.res2H : EncodedLength.Statement .res2H := encodedLength_of 0xCB [0x94] rfl rfl
theorem EncodedLength.res2L : EncodedLength.Statement .res2L := encodedLength_of 0xCB [0x95] rfl rfl
theorem EncodedLength.res2AtHl : EncodedLength.Statement .res2AtHl := encodedLength_of 0xCB [0x96] rfl rfl
theorem EncodedLength.res2A : EncodedLength.Statement .res2A := encodedLength_of 0xCB [0x97] rfl rfl
theorem EncodedLength.res3B : EncodedLength.Statement .res3B := encodedLength_of 0xCB [0x98] rfl rfl
theorem EncodedLength.res3C : EncodedLength.Statement .res3C := encodedLength_of 0xCB [0x99] rfl rfl
theorem EncodedLength.res3D : EncodedLength.Statement .res3D := encodedLength_of 0xCB [0x9A] rfl rfl
theorem EncodedLength.res3E : EncodedLength.Statement .res3E := encodedLength_of 0xCB [0x9B] rfl rfl
theorem EncodedLength.res3H : EncodedLength.Statement .res3H := encodedLength_of 0xCB [0x9C] rfl rfl
theorem EncodedLength.res3L : EncodedLength.Statement .res3L := encodedLength_of 0xCB [0x9D] rfl rfl
theorem EncodedLength.res3AtHl : EncodedLength.Statement .res3AtHl := encodedLength_of 0xCB [0x9E] rfl rfl
theorem EncodedLength.res3A : EncodedLength.Statement .res3A := encodedLength_of 0xCB [0x9F] rfl rfl
theorem EncodedLength.res4B : EncodedLength.Statement .res4B := encodedLength_of 0xCB [0xA0] rfl rfl
theorem EncodedLength.res4C : EncodedLength.Statement .res4C := encodedLength_of 0xCB [0xA1] rfl rfl
theorem EncodedLength.res4D : EncodedLength.Statement .res4D := encodedLength_of 0xCB [0xA2] rfl rfl
theorem EncodedLength.res4E : EncodedLength.Statement .res4E := encodedLength_of 0xCB [0xA3] rfl rfl
theorem EncodedLength.res4H : EncodedLength.Statement .res4H := encodedLength_of 0xCB [0xA4] rfl rfl
theorem EncodedLength.res4L : EncodedLength.Statement .res4L := encodedLength_of 0xCB [0xA5] rfl rfl
theorem EncodedLength.res4AtHl : EncodedLength.Statement .res4AtHl := encodedLength_of 0xCB [0xA6] rfl rfl
theorem EncodedLength.res4A : EncodedLength.Statement .res4A := encodedLength_of 0xCB [0xA7] rfl rfl
theorem EncodedLength.res5B : EncodedLength.Statement .res5B := encodedLength_of 0xCB [0xA8] rfl rfl
theorem EncodedLength.res5C : EncodedLength.Statement .res5C := encodedLength_of 0xCB [0xA9] rfl rfl
theorem EncodedLength.res5D : EncodedLength.Statement .res5D := encodedLength_of 0xCB [0xAA] rfl rfl
theorem EncodedLength.res5E : EncodedLength.Statement .res5E := encodedLength_of 0xCB [0xAB] rfl rfl
theorem EncodedLength.res5H : EncodedLength.Statement .res5H := encodedLength_of 0xCB [0xAC] rfl rfl
theorem EncodedLength.res5L : EncodedLength.Statement .res5L := encodedLength_of 0xCB [0xAD] rfl rfl
theorem EncodedLength.res5AtHl : EncodedLength.Statement .res5AtHl := encodedLength_of 0xCB [0xAE] rfl rfl
theorem EncodedLength.res5A : EncodedLength.Statement .res5A := encodedLength_of 0xCB [0xAF] rfl rfl
theorem EncodedLength.res6B : EncodedLength.Statement .res6B := encodedLength_of 0xCB [0xB0] rfl rfl
theorem EncodedLength.res6C : EncodedLength.Statement .res6C := encodedLength_of 0xCB [0xB1] rfl rfl
theorem EncodedLength.res6D : EncodedLength.Statement .res6D := encodedLength_of 0xCB [0xB2] rfl rfl
theorem EncodedLength.res6E : EncodedLength.Statement .res6E := encodedLength_of 0xCB [0xB3] rfl rfl
theorem EncodedLength.res6H : EncodedLength.Statement .res6H := encodedLength_of 0xCB [0xB4] rfl rfl
theorem EncodedLength.res6L : EncodedLength.Statement .res6L := encodedLength_of 0xCB [0xB5] rfl rfl
theorem EncodedLength.res6AtHl : EncodedLength.Statement .res6AtHl := encodedLength_of 0xCB [0xB6] rfl rfl
theorem EncodedLength.res6A : EncodedLength.Statement .res6A := encodedLength_of 0xCB [0xB7] rfl rfl
theorem EncodedLength.res7B : EncodedLength.Statement .res7B := encodedLength_of 0xCB [0xB8] rfl rfl
theorem EncodedLength.res7C : EncodedLength.Statement .res7C := encodedLength_of 0xCB [0xB9] rfl rfl
theorem EncodedLength.res7D : EncodedLength.Statement .res7D := encodedLength_of 0xCB [0xBA] rfl rfl
theorem EncodedLength.res7E : EncodedLength.Statement .res7E := encodedLength_of 0xCB [0xBB] rfl rfl
theorem EncodedLength.res7H : EncodedLength.Statement .res7H := encodedLength_of 0xCB [0xBC] rfl rfl
theorem EncodedLength.res7L : EncodedLength.Statement .res7L := encodedLength_of 0xCB [0xBD] rfl rfl
theorem EncodedLength.res7AtHl : EncodedLength.Statement .res7AtHl := encodedLength_of 0xCB [0xBE] rfl rfl
theorem EncodedLength.res7A : EncodedLength.Statement .res7A := encodedLength_of 0xCB [0xBF] rfl rfl
theorem EncodedLength.set0B : EncodedLength.Statement .set0B := encodedLength_of 0xCB [0xC0] rfl rfl
theorem EncodedLength.set0C : EncodedLength.Statement .set0C := encodedLength_of 0xCB [0xC1] rfl rfl
theorem EncodedLength.set0D : EncodedLength.Statement .set0D := encodedLength_of 0xCB [0xC2] rfl rfl
theorem EncodedLength.set0E : EncodedLength.Statement .set0E := encodedLength_of 0xCB [0xC3] rfl rfl
theorem EncodedLength.set0H : EncodedLength.Statement .set0H := encodedLength_of 0xCB [0xC4] rfl rfl
theorem EncodedLength.set0L : EncodedLength.Statement .set0L := encodedLength_of 0xCB [0xC5] rfl rfl
theorem EncodedLength.set0AtHl : EncodedLength.Statement .set0AtHl := encodedLength_of 0xCB [0xC6] rfl rfl
theorem EncodedLength.set0A : EncodedLength.Statement .set0A := encodedLength_of 0xCB [0xC7] rfl rfl
theorem EncodedLength.set1B : EncodedLength.Statement .set1B := encodedLength_of 0xCB [0xC8] rfl rfl
theorem EncodedLength.set1C : EncodedLength.Statement .set1C := encodedLength_of 0xCB [0xC9] rfl rfl
theorem EncodedLength.set1D : EncodedLength.Statement .set1D := encodedLength_of 0xCB [0xCA] rfl rfl
theorem EncodedLength.set1E : EncodedLength.Statement .set1E := encodedLength_of 0xCB [0xCB] rfl rfl
theorem EncodedLength.set1H : EncodedLength.Statement .set1H := encodedLength_of 0xCB [0xCC] rfl rfl
theorem EncodedLength.set1L : EncodedLength.Statement .set1L := encodedLength_of 0xCB [0xCD] rfl rfl
theorem EncodedLength.set1AtHl : EncodedLength.Statement .set1AtHl := encodedLength_of 0xCB [0xCE] rfl rfl
theorem EncodedLength.set1A : EncodedLength.Statement .set1A := encodedLength_of 0xCB [0xCF] rfl rfl
theorem EncodedLength.set2B : EncodedLength.Statement .set2B := encodedLength_of 0xCB [0xD0] rfl rfl
theorem EncodedLength.set2C : EncodedLength.Statement .set2C := encodedLength_of 0xCB [0xD1] rfl rfl
theorem EncodedLength.set2D : EncodedLength.Statement .set2D := encodedLength_of 0xCB [0xD2] rfl rfl
theorem EncodedLength.set2E : EncodedLength.Statement .set2E := encodedLength_of 0xCB [0xD3] rfl rfl
theorem EncodedLength.set2H : EncodedLength.Statement .set2H := encodedLength_of 0xCB [0xD4] rfl rfl
theorem EncodedLength.set2L : EncodedLength.Statement .set2L := encodedLength_of 0xCB [0xD5] rfl rfl
theorem EncodedLength.set2AtHl : EncodedLength.Statement .set2AtHl := encodedLength_of 0xCB [0xD6] rfl rfl
theorem EncodedLength.set2A : EncodedLength.Statement .set2A := encodedLength_of 0xCB [0xD7] rfl rfl
theorem EncodedLength.set3B : EncodedLength.Statement .set3B := encodedLength_of 0xCB [0xD8] rfl rfl
theorem EncodedLength.set3C : EncodedLength.Statement .set3C := encodedLength_of 0xCB [0xD9] rfl rfl
theorem EncodedLength.set3D : EncodedLength.Statement .set3D := encodedLength_of 0xCB [0xDA] rfl rfl
theorem EncodedLength.set3E : EncodedLength.Statement .set3E := encodedLength_of 0xCB [0xDB] rfl rfl
theorem EncodedLength.set3H : EncodedLength.Statement .set3H := encodedLength_of 0xCB [0xDC] rfl rfl
theorem EncodedLength.set3L : EncodedLength.Statement .set3L := encodedLength_of 0xCB [0xDD] rfl rfl
theorem EncodedLength.set3AtHl : EncodedLength.Statement .set3AtHl := encodedLength_of 0xCB [0xDE] rfl rfl
theorem EncodedLength.set3A : EncodedLength.Statement .set3A := encodedLength_of 0xCB [0xDF] rfl rfl
theorem EncodedLength.set4B : EncodedLength.Statement .set4B := encodedLength_of 0xCB [0xE0] rfl rfl
theorem EncodedLength.set4C : EncodedLength.Statement .set4C := encodedLength_of 0xCB [0xE1] rfl rfl
theorem EncodedLength.set4D : EncodedLength.Statement .set4D := encodedLength_of 0xCB [0xE2] rfl rfl
theorem EncodedLength.set4E : EncodedLength.Statement .set4E := encodedLength_of 0xCB [0xE3] rfl rfl
theorem EncodedLength.set4H : EncodedLength.Statement .set4H := encodedLength_of 0xCB [0xE4] rfl rfl
theorem EncodedLength.set4L : EncodedLength.Statement .set4L := encodedLength_of 0xCB [0xE5] rfl rfl
theorem EncodedLength.set4AtHl : EncodedLength.Statement .set4AtHl := encodedLength_of 0xCB [0xE6] rfl rfl
theorem EncodedLength.set4A : EncodedLength.Statement .set4A := encodedLength_of 0xCB [0xE7] rfl rfl
theorem EncodedLength.set5B : EncodedLength.Statement .set5B := encodedLength_of 0xCB [0xE8] rfl rfl
theorem EncodedLength.set5C : EncodedLength.Statement .set5C := encodedLength_of 0xCB [0xE9] rfl rfl
theorem EncodedLength.set5D : EncodedLength.Statement .set5D := encodedLength_of 0xCB [0xEA] rfl rfl
theorem EncodedLength.set5E : EncodedLength.Statement .set5E := encodedLength_of 0xCB [0xEB] rfl rfl
theorem EncodedLength.set5H : EncodedLength.Statement .set5H := encodedLength_of 0xCB [0xEC] rfl rfl
theorem EncodedLength.set5L : EncodedLength.Statement .set5L := encodedLength_of 0xCB [0xED] rfl rfl
theorem EncodedLength.set5AtHl : EncodedLength.Statement .set5AtHl := encodedLength_of 0xCB [0xEE] rfl rfl
theorem EncodedLength.set5A : EncodedLength.Statement .set5A := encodedLength_of 0xCB [0xEF] rfl rfl
theorem EncodedLength.set6B : EncodedLength.Statement .set6B := encodedLength_of 0xCB [0xF0] rfl rfl
theorem EncodedLength.set6C : EncodedLength.Statement .set6C := encodedLength_of 0xCB [0xF1] rfl rfl
theorem EncodedLength.set6D : EncodedLength.Statement .set6D := encodedLength_of 0xCB [0xF2] rfl rfl
theorem EncodedLength.set6E : EncodedLength.Statement .set6E := encodedLength_of 0xCB [0xF3] rfl rfl
theorem EncodedLength.set6H : EncodedLength.Statement .set6H := encodedLength_of 0xCB [0xF4] rfl rfl
theorem EncodedLength.set6L : EncodedLength.Statement .set6L := encodedLength_of 0xCB [0xF5] rfl rfl
theorem EncodedLength.set6AtHl : EncodedLength.Statement .set6AtHl := encodedLength_of 0xCB [0xF6] rfl rfl
theorem EncodedLength.set6A : EncodedLength.Statement .set6A := encodedLength_of 0xCB [0xF7] rfl rfl
theorem EncodedLength.set7B : EncodedLength.Statement .set7B := encodedLength_of 0xCB [0xF8] rfl rfl
theorem EncodedLength.set7C : EncodedLength.Statement .set7C := encodedLength_of 0xCB [0xF9] rfl rfl
theorem EncodedLength.set7D : EncodedLength.Statement .set7D := encodedLength_of 0xCB [0xFA] rfl rfl
theorem EncodedLength.set7E : EncodedLength.Statement .set7E := encodedLength_of 0xCB [0xFB] rfl rfl
theorem EncodedLength.set7H : EncodedLength.Statement .set7H := encodedLength_of 0xCB [0xFC] rfl rfl
theorem EncodedLength.set7L : EncodedLength.Statement .set7L := encodedLength_of 0xCB [0xFD] rfl rfl
theorem EncodedLength.set7AtHl : EncodedLength.Statement .set7AtHl := encodedLength_of 0xCB [0xFE] rfl rfl
theorem EncodedLength.set7A : EncodedLength.Statement .set7A := encodedLength_of 0xCB [0xFF] rfl rfl

end Sys2Proof.Laws
end

