-- ==== Sys2Proof/Tests/Slice0.lean ====
section
/-! SUPPORT. The model's own tests: each a small theorem about one step, its expected result from the spec (the section named above
it), and the witnesses of the statements' hypotheses. -/

namespace Sys2Proof.Tests

open Sys2Proof.Machine Sys2Proof.Stmt

/-- The start state of 95_test_vectors.md sections 2 and 3 (every register, flag and IME 0), with a budget of 10. -/
def start : State := { State.reset with cycles := 10 }

/-- A state with an instruction's bytes at an address and the pc there. -/
def place (pc : Word) (bytes : List Byte) (s : State) : State := { s with pc := pc, mem := s.mem.writeBytes pc bytes }

/-- What one step leaves, looked at through f. -/
def after {α : Type} (f : State → α) (s : State) : Option α :=
  match step s with
  | .next t => some (f t)
  | _ => none

/-- The fault one step ends in. -/
def faultOf (s : State) : Option Fault :=
  match step s with
  | .fault f => some f
  | _ => none

/-- How a run ends: the tag, the pc and the budget left. -/
def ran (r : RunResult) : RunEnd × Word × Int := (r.ending, r.pc, r.cycles)

/-! ## Well-formedness: each check refuses an ill-formed term -/

theorem test_cost_zero_refused : Config.wellFormed { retCcTakenCost := 0 } = false := by decide

theorem test_cost_seven_refused : Config.wellFormed { retCcTakenCost := 7 } = false := by decide

theorem test_cost_bounds_accepted : Config.wellFormed { retCcTakenCost := 1 } = true ∧ Config.wellFormed { retCcTakenCost := 6 } = true ∧
    Config.default.wellFormed = true := by decide

/-- Every term of Instr is well formed (30_encoding.md R97: every byte sequence decodes), so there is no ill-formed one; the
widest operands are accepted. -/
theorem test_widest_operands_accepted : Instr.wellFormed (.ldBcN16 0xFFFF) = true ∧ Instr.wellFormed (.stop 0xFF) = true := by decide

theorem test_memory_unsorted_refused : Memory.wf [(2, 1), (1, 1)] = false := by decide

theorem test_memory_repeated_refused : Memory.wf [(1, 1), (1, 2)] = false := by decide

theorem test_memory_outside_refused : Memory.wf [(0x10000, 1)] = false ∧ Memory.wf [(0xFFFF, 1)] = true := by decide

theorem test_memory_unlisted_byte_refused : Memory.wf [(1, 0)] = false := by decide

-- a list with too few bytes is rejected by name (log 10)
theorem test_no_bytes : decode [] = .error .noBytes := by decide

theorem test_too_few_bytes : decode [0xC3, 0x00] = .error (.tooFewBytes 3) ∧ decode [0xCB] = .error (.tooFewBytes 2) := by decide

/-! ## Decoding -/

/-! The words below are written out from the encodings of the rules (`01 rrr sss` and its like), not from the opcode maps: with
the operand byte 0x85, or the operand word 0x1234 as the bytes 34 12. -/

/-- Each listing is a pair of bytes and the instruction they are the encoding of, both ways. -/
def agree (l : List (List Byte × Instr)) : Bool :=
  l.all fun p => decide (decode p.1 = .ok (p.2, [])) && decide (encode p.2 = p.1)

theorem test_decode_loads_1 : agree [
    ([0x01, 0x34, 0x12], .ldBcN16 0x1234), ([0x02], .ldAtBcA), ([0x06, 0x85], .ldBN8 0x85),
    ([0x08, 0x34, 0x12], .ldAtN16Sp 0x1234), ([0x0A], .ldAAtBc), ([0x0E, 0x85], .ldCN8 0x85),
    ([0x11, 0x34, 0x12], .ldDeN16 0x1234), ([0x12], .ldAtDeA), ([0x16, 0x85], .ldDN8 0x85), ([0x1A], .ldAAtDe),
    ([0x1E, 0x85], .ldEN8 0x85), ([0x21, 0x34, 0x12], .ldHlN16 0x1234), ([0x22], .ldAtHlIncA),
    ([0x26, 0x85], .ldHN8 0x85), ([0x2A], .ldAAtHlInc), ([0x2E, 0x85], .ldLN8 0x85),
    ([0x31, 0x34, 0x12], .ldSpN16 0x1234), ([0x32], .ldAtHlDecA), ([0x36, 0x85], .ldAtHlN8 0x85), ([0x3A], .ldAAtHlDec),
    ([0x3E, 0x85], .ldAN8 0x85), ([0x40], .ldBB), ([0x41], .ldBC), ([0x42], .ldBD), ([0x43], .ldBE), ([0x44], .ldBH),
    ([0x45], .ldBL), ([0x46], .ldBAtHl), ([0x47], .ldBA), ([0x48], .ldCB), ([0x49], .ldCC), ([0x4A], .ldCD)] = true := by decide

theorem test_decode_loads_2 : agree [
    ([0x4B], .ldCE), ([0x4C], .ldCH), ([0x4D], .ldCL), ([0x4E], .ldCAtHl), ([0x4F], .ldCA), ([0x50], .ldDB),
    ([0x51], .ldDC), ([0x52], .ldDD), ([0x53], .ldDE), ([0x54], .ldDH), ([0x55], .ldDL), ([0x56], .ldDAtHl),
    ([0x57], .ldDA), ([0x58], .ldEB), ([0x59], .ldEC), ([0x5A], .ldED), ([0x5B], .ldEE), ([0x5C], .ldEH),
    ([0x5D], .ldEL), ([0x5E], .ldEAtHl), ([0x5F], .ldEA), ([0x60], .ldHB), ([0x61], .ldHC), ([0x62], .ldHD),
    ([0x63], .ldHE), ([0x64], .ldHH), ([0x65], .ldHL), ([0x66], .ldHAtHl), ([0x67], .ldHA), ([0x68], .ldLB),
    ([0x69], .ldLC), ([0x6A], .ldLD)] = true := by decide

theorem test_decode_loads_3 : agree [
    ([0x6B], .ldLE), ([0x6C], .ldLH), ([0x6D], .ldLL), ([0x6E], .ldLAtHl), ([0x6F], .ldLA), ([0x70], .ldAtHlB),
    ([0x71], .ldAtHlC), ([0x72], .ldAtHlD), ([0x73], .ldAtHlE), ([0x74], .ldAtHlH), ([0x75], .ldAtHlL),
    ([0x77], .ldAtHlA), ([0x78], .ldAB), ([0x79], .ldAC), ([0x7A], .ldAD), ([0x7B], .ldAE), ([0x7C], .ldAH),
    ([0x7D], .ldAL), ([0x7E], .ldAAtHl), ([0x7F], .ldAA), ([0xE0, 0x85], .ldhAtN8A 0x85), ([0xE2], .ldAtCA),
    ([0xEA, 0x34, 0x12], .ldAtN16A 0x1234), ([0xF0, 0x85], .ldhAAtN8 0x85), ([0xF2], .ldAAtC), ([0xF9], .ldSpHl),
    ([0xFA, 0x34, 0x12], .ldAAtN16 0x1234)] = true := by decide

theorem test_decode_stack : agree [
    ([0xC1], .popBc), ([0xC5], .pushBc), ([0xD1], .popDe), ([0xD5], .pushDe), ([0xE1], .popHl), ([0xE5], .pushHl),
    ([0xF1], .popAf), ([0xF5], .pushAf)] = true := by decide

theorem test_decode_inc_dec : agree [
    ([0x04], .incB), ([0x05], .decB), ([0x0C], .incC), ([0x0D], .decC), ([0x14], .incD), ([0x15], .decD),
    ([0x1C], .incE), ([0x1D], .decE), ([0x24], .incH), ([0x25], .decH), ([0x2C], .incL), ([0x2D], .decL),
    ([0x34], .incAtHl), ([0x35], .decAtHl), ([0x3C], .incA), ([0x3D], .decA)] = true := by decide

theorem test_decode_add_adc : agree [
    ([0x80], .addAB), ([0x81], .addAC), ([0x82], .addAD), ([0x83], .addAE), ([0x84], .addAH), ([0x85], .addAL),
    ([0x86], .addAAtHl), ([0x87], .addAA), ([0x88], .adcAB), ([0x89], .adcAC), ([0x8A], .adcAD), ([0x8B], .adcAE),
    ([0x8C], .adcAH), ([0x8D], .adcAL), ([0x8E], .adcAAtHl), ([0x8F], .adcAA), ([0xC6, 0x85], .addAN8 0x85),
    ([0xCE, 0x85], .adcAN8 0x85)] = true := by decide

theorem test_decode_sub_sbc : agree [
    ([0x90], .subAB), ([0x91], .subAC), ([0x92], .subAD), ([0x93], .subAE), ([0x94], .subAH), ([0x95], .subAL),
    ([0x96], .subAAtHl), ([0x97], .subAA), ([0x98], .sbcAB), ([0x99], .sbcAC), ([0x9A], .sbcAD), ([0x9B], .sbcAE),
    ([0x9C], .sbcAH), ([0x9D], .sbcAL), ([0x9E], .sbcAAtHl), ([0x9F], .sbcAA), ([0xD6, 0x85], .subAN8 0x85),
    ([0xDE, 0x85], .sbcAN8 0x85)] = true := by decide

theorem test_decode_and_xor_or : agree [
    ([0xA0], .andAB), ([0xA1], .andAC), ([0xA2], .andAD), ([0xA3], .andAE), ([0xA4], .andAH), ([0xA5], .andAL),
    ([0xA6], .andAAtHl), ([0xA7], .andAA), ([0xA8], .xorAB), ([0xA9], .xorAC), ([0xAA], .xorAD), ([0xAB], .xorAE),
    ([0xAC], .xorAH), ([0xAD], .xorAL), ([0xAE], .xorAAtHl), ([0xAF], .xorAA), ([0xB0], .orAB), ([0xB1], .orAC),
    ([0xB2], .orAD), ([0xB3], .orAE), ([0xB4], .orAH), ([0xB5], .orAL), ([0xB6], .orAAtHl), ([0xB7], .orAA),
    ([0xE6, 0x85], .andAN8 0x85), ([0xEE, 0x85], .xorAN8 0x85), ([0xF6, 0x85], .orAN8 0x85)] = true := by decide

theorem test_decode_cp : agree [
    ([0xB8], .cpAB), ([0xB9], .cpAC), ([0xBA], .cpAD), ([0xBB], .cpAE), ([0xBC], .cpAH), ([0xBD], .cpAL),
    ([0xBE], .cpAAtHl), ([0xBF], .cpAA), ([0xFE, 0x85], .cpAN8 0x85)] = true := by decide

theorem test_decode_misc8 : agree [
    ([0x27], .daa), ([0x2F], .cpl), ([0x37], .scf), ([0x3F], .ccf)] = true := by decide

theorem test_decode_alu16 : agree [
    ([0x03], .incBc), ([0x09], .addHlBc), ([0x0B], .decBc), ([0x13], .incDe), ([0x19], .addHlDe), ([0x1B], .decDe),
    ([0x23], .incHl), ([0x29], .addHlHl), ([0x2B], .decHl), ([0x33], .incSp), ([0x39], .addHlSp), ([0x3B], .decSp),
    ([0xE8, 0x85], .addSpE8 0x85), ([0xF8, 0x85], .ldHlSpE8 0x85)] = true := by decide

theorem test_decode_jumps : agree [
    ([0x18, 0x85], .jrE8 0x85), ([0x20, 0x85], .jrNzE8 0x85), ([0x28, 0x85], .jrZE8 0x85), ([0x30, 0x85], .jrNcE8 0x85),
    ([0x38, 0x85], .jrCE8 0x85), ([0xC2, 0x34, 0x12], .jpNzN16 0x1234), ([0xC3, 0x34, 0x12], .jpN16 0x1234),
    ([0xCA, 0x34, 0x12], .jpZN16 0x1234), ([0xD2, 0x34, 0x12], .jpNcN16 0x1234), ([0xDA, 0x34, 0x12], .jpCN16 0x1234),
    ([0xE9], .jpHl)] = true := by decide

theorem test_decode_calls_returns : agree [
    ([0xC0], .retNz), ([0xC4, 0x34, 0x12], .callNzN16 0x1234), ([0xC7], .rst00), ([0xC8], .retZ), ([0xC9], .ret),
    ([0xCC, 0x34, 0x12], .callZN16 0x1234), ([0xCD, 0x34, 0x12], .callN16 0x1234), ([0xCF], .rst08), ([0xD0], .retNc),
    ([0xD4, 0x34, 0x12], .callNcN16 0x1234), ([0xD7], .rst10), ([0xD8], .retC), ([0xD9], .reti),
    ([0xDC, 0x34, 0x12], .callCN16 0x1234), ([0xDF], .rst18), ([0xE7], .rst20), ([0xEF], .rst28), ([0xF7], .rst30),
    ([0xFF], .rst38)] = true := by decide

theorem test_decode_system : agree [
    ([0x00], .nop), ([0x10, 0x85], .stop 0x85), ([0x76], .halt), ([0xD3], .unassignedD3), ([0xDB], .unassignedDB),
    ([0xDD], .unassignedDD), ([0xE3], .unassignedE3), ([0xE4], .unassignedE4), ([0xEB], .unassignedEB),
    ([0xEC], .unassignedEC), ([0xED], .unassignedED), ([0xF3], .di), ([0xF4], .unassignedF4), ([0xFB], .ei),
    ([0xFC], .unassignedFC), ([0xFD], .unassignedFD)] = true := by decide

theorem test_decode_rotate_a : agree [
    ([0x07], .rlca), ([0x0F], .rrca), ([0x17], .rla), ([0x1F], .rra)] = true := by decide

theorem test_decode_rotates : agree [
    ([0xCB, 0x00], .rlcB), ([0xCB, 0x01], .rlcC), ([0xCB, 0x02], .rlcD), ([0xCB, 0x03], .rlcE), ([0xCB, 0x04], .rlcH),
    ([0xCB, 0x05], .rlcL), ([0xCB, 0x06], .rlcAtHl), ([0xCB, 0x07], .rlcA), ([0xCB, 0x08], .rrcB), ([0xCB, 0x09], .rrcC),
    ([0xCB, 0x0A], .rrcD), ([0xCB, 0x0B], .rrcE), ([0xCB, 0x0C], .rrcH), ([0xCB, 0x0D], .rrcL), ([0xCB, 0x0E], .rrcAtHl),
    ([0xCB, 0x0F], .rrcA), ([0xCB, 0x10], .rlB), ([0xCB, 0x11], .rlC), ([0xCB, 0x12], .rlD), ([0xCB, 0x13], .rlE),
    ([0xCB, 0x14], .rlH), ([0xCB, 0x15], .rlL), ([0xCB, 0x16], .rlAtHl), ([0xCB, 0x17], .rlA), ([0xCB, 0x18], .rrB),
    ([0xCB, 0x19], .rrC), ([0xCB, 0x1A], .rrD), ([0xCB, 0x1B], .rrE), ([0xCB, 0x1C], .rrH), ([0xCB, 0x1D], .rrL),
    ([0xCB, 0x1E], .rrAtHl), ([0xCB, 0x1F], .rrA)] = true := by decide

theorem test_decode_shifts : agree [
    ([0xCB, 0x20], .slaB), ([0xCB, 0x21], .slaC), ([0xCB, 0x22], .slaD), ([0xCB, 0x23], .slaE), ([0xCB, 0x24], .slaH),
    ([0xCB, 0x25], .slaL), ([0xCB, 0x26], .slaAtHl), ([0xCB, 0x27], .slaA), ([0xCB, 0x28], .sraB), ([0xCB, 0x29], .sraC),
    ([0xCB, 0x2A], .sraD), ([0xCB, 0x2B], .sraE), ([0xCB, 0x2C], .sraH), ([0xCB, 0x2D], .sraL), ([0xCB, 0x2E], .sraAtHl),
    ([0xCB, 0x2F], .sraA), ([0xCB, 0x30], .swapB), ([0xCB, 0x31], .swapC), ([0xCB, 0x32], .swapD),
    ([0xCB, 0x33], .swapE), ([0xCB, 0x34], .swapH), ([0xCB, 0x35], .swapL), ([0xCB, 0x36], .swapAtHl),
    ([0xCB, 0x37], .swapA), ([0xCB, 0x38], .srlB), ([0xCB, 0x39], .srlC), ([0xCB, 0x3A], .srlD), ([0xCB, 0x3B], .srlE),
    ([0xCB, 0x3C], .srlH), ([0xCB, 0x3D], .srlL), ([0xCB, 0x3E], .srlAtHl), ([0xCB, 0x3F], .srlA)] = true := by decide

theorem test_decode_bit_1 : agree [
    ([0xCB, 0x40], .bit0B), ([0xCB, 0x41], .bit0C), ([0xCB, 0x42], .bit0D), ([0xCB, 0x43], .bit0E),
    ([0xCB, 0x44], .bit0H), ([0xCB, 0x45], .bit0L), ([0xCB, 0x46], .bit0AtHl), ([0xCB, 0x47], .bit0A),
    ([0xCB, 0x48], .bit1B), ([0xCB, 0x49], .bit1C), ([0xCB, 0x4A], .bit1D), ([0xCB, 0x4B], .bit1E),
    ([0xCB, 0x4C], .bit1H), ([0xCB, 0x4D], .bit1L), ([0xCB, 0x4E], .bit1AtHl), ([0xCB, 0x4F], .bit1A),
    ([0xCB, 0x50], .bit2B), ([0xCB, 0x51], .bit2C), ([0xCB, 0x52], .bit2D), ([0xCB, 0x53], .bit2E),
    ([0xCB, 0x54], .bit2H), ([0xCB, 0x55], .bit2L), ([0xCB, 0x56], .bit2AtHl), ([0xCB, 0x57], .bit2A),
    ([0xCB, 0x58], .bit3B), ([0xCB, 0x59], .bit3C), ([0xCB, 0x5A], .bit3D), ([0xCB, 0x5B], .bit3E),
    ([0xCB, 0x5C], .bit3H), ([0xCB, 0x5D], .bit3L), ([0xCB, 0x5E], .bit3AtHl), ([0xCB, 0x5F], .bit3A)] = true := by decide

theorem test_decode_bit_2 : agree [
    ([0xCB, 0x60], .bit4B), ([0xCB, 0x61], .bit4C), ([0xCB, 0x62], .bit4D), ([0xCB, 0x63], .bit4E),
    ([0xCB, 0x64], .bit4H), ([0xCB, 0x65], .bit4L), ([0xCB, 0x66], .bit4AtHl), ([0xCB, 0x67], .bit4A),
    ([0xCB, 0x68], .bit5B), ([0xCB, 0x69], .bit5C), ([0xCB, 0x6A], .bit5D), ([0xCB, 0x6B], .bit5E),
    ([0xCB, 0x6C], .bit5H), ([0xCB, 0x6D], .bit5L), ([0xCB, 0x6E], .bit5AtHl), ([0xCB, 0x6F], .bit5A),
    ([0xCB, 0x70], .bit6B), ([0xCB, 0x71], .bit6C), ([0xCB, 0x72], .bit6D), ([0xCB, 0x73], .bit6E),
    ([0xCB, 0x74], .bit6H), ([0xCB, 0x75], .bit6L), ([0xCB, 0x76], .bit6AtHl), ([0xCB, 0x77], .bit6A),
    ([0xCB, 0x78], .bit7B), ([0xCB, 0x79], .bit7C), ([0xCB, 0x7A], .bit7D), ([0xCB, 0x7B], .bit7E),
    ([0xCB, 0x7C], .bit7H), ([0xCB, 0x7D], .bit7L), ([0xCB, 0x7E], .bit7AtHl), ([0xCB, 0x7F], .bit7A)] = true := by decide

theorem test_decode_res_1 : agree [
    ([0xCB, 0x80], .res0B), ([0xCB, 0x81], .res0C), ([0xCB, 0x82], .res0D), ([0xCB, 0x83], .res0E),
    ([0xCB, 0x84], .res0H), ([0xCB, 0x85], .res0L), ([0xCB, 0x86], .res0AtHl), ([0xCB, 0x87], .res0A),
    ([0xCB, 0x88], .res1B), ([0xCB, 0x89], .res1C), ([0xCB, 0x8A], .res1D), ([0xCB, 0x8B], .res1E),
    ([0xCB, 0x8C], .res1H), ([0xCB, 0x8D], .res1L), ([0xCB, 0x8E], .res1AtHl), ([0xCB, 0x8F], .res1A),
    ([0xCB, 0x90], .res2B), ([0xCB, 0x91], .res2C), ([0xCB, 0x92], .res2D), ([0xCB, 0x93], .res2E),
    ([0xCB, 0x94], .res2H), ([0xCB, 0x95], .res2L), ([0xCB, 0x96], .res2AtHl), ([0xCB, 0x97], .res2A),
    ([0xCB, 0x98], .res3B), ([0xCB, 0x99], .res3C), ([0xCB, 0x9A], .res3D), ([0xCB, 0x9B], .res3E),
    ([0xCB, 0x9C], .res3H), ([0xCB, 0x9D], .res3L), ([0xCB, 0x9E], .res3AtHl), ([0xCB, 0x9F], .res3A)] = true := by decide

theorem test_decode_res_2 : agree [
    ([0xCB, 0xA0], .res4B), ([0xCB, 0xA1], .res4C), ([0xCB, 0xA2], .res4D), ([0xCB, 0xA3], .res4E),
    ([0xCB, 0xA4], .res4H), ([0xCB, 0xA5], .res4L), ([0xCB, 0xA6], .res4AtHl), ([0xCB, 0xA7], .res4A),
    ([0xCB, 0xA8], .res5B), ([0xCB, 0xA9], .res5C), ([0xCB, 0xAA], .res5D), ([0xCB, 0xAB], .res5E),
    ([0xCB, 0xAC], .res5H), ([0xCB, 0xAD], .res5L), ([0xCB, 0xAE], .res5AtHl), ([0xCB, 0xAF], .res5A),
    ([0xCB, 0xB0], .res6B), ([0xCB, 0xB1], .res6C), ([0xCB, 0xB2], .res6D), ([0xCB, 0xB3], .res6E),
    ([0xCB, 0xB4], .res6H), ([0xCB, 0xB5], .res6L), ([0xCB, 0xB6], .res6AtHl), ([0xCB, 0xB7], .res6A),
    ([0xCB, 0xB8], .res7B), ([0xCB, 0xB9], .res7C), ([0xCB, 0xBA], .res7D), ([0xCB, 0xBB], .res7E),
    ([0xCB, 0xBC], .res7H), ([0xCB, 0xBD], .res7L), ([0xCB, 0xBE], .res7AtHl), ([0xCB, 0xBF], .res7A)] = true := by decide

theorem test_decode_set_1 : agree [
    ([0xCB, 0xC0], .set0B), ([0xCB, 0xC1], .set0C), ([0xCB, 0xC2], .set0D), ([0xCB, 0xC3], .set0E),
    ([0xCB, 0xC4], .set0H), ([0xCB, 0xC5], .set0L), ([0xCB, 0xC6], .set0AtHl), ([0xCB, 0xC7], .set0A),
    ([0xCB, 0xC8], .set1B), ([0xCB, 0xC9], .set1C), ([0xCB, 0xCA], .set1D), ([0xCB, 0xCB], .set1E),
    ([0xCB, 0xCC], .set1H), ([0xCB, 0xCD], .set1L), ([0xCB, 0xCE], .set1AtHl), ([0xCB, 0xCF], .set1A),
    ([0xCB, 0xD0], .set2B), ([0xCB, 0xD1], .set2C), ([0xCB, 0xD2], .set2D), ([0xCB, 0xD3], .set2E),
    ([0xCB, 0xD4], .set2H), ([0xCB, 0xD5], .set2L), ([0xCB, 0xD6], .set2AtHl), ([0xCB, 0xD7], .set2A),
    ([0xCB, 0xD8], .set3B), ([0xCB, 0xD9], .set3C), ([0xCB, 0xDA], .set3D), ([0xCB, 0xDB], .set3E),
    ([0xCB, 0xDC], .set3H), ([0xCB, 0xDD], .set3L), ([0xCB, 0xDE], .set3AtHl), ([0xCB, 0xDF], .set3A)] = true := by decide

theorem test_decode_set_2 : agree [
    ([0xCB, 0xE0], .set4B), ([0xCB, 0xE1], .set4C), ([0xCB, 0xE2], .set4D), ([0xCB, 0xE3], .set4E),
    ([0xCB, 0xE4], .set4H), ([0xCB, 0xE5], .set4L), ([0xCB, 0xE6], .set4AtHl), ([0xCB, 0xE7], .set4A),
    ([0xCB, 0xE8], .set5B), ([0xCB, 0xE9], .set5C), ([0xCB, 0xEA], .set5D), ([0xCB, 0xEB], .set5E),
    ([0xCB, 0xEC], .set5H), ([0xCB, 0xED], .set5L), ([0xCB, 0xEE], .set5AtHl), ([0xCB, 0xEF], .set5A),
    ([0xCB, 0xF0], .set6B), ([0xCB, 0xF1], .set6C), ([0xCB, 0xF2], .set6D), ([0xCB, 0xF3], .set6E),
    ([0xCB, 0xF4], .set6H), ([0xCB, 0xF5], .set6L), ([0xCB, 0xF6], .set6AtHl), ([0xCB, 0xF7], .set6A),
    ([0xCB, 0xF8], .set7B), ([0xCB, 0xF9], .set7C), ([0xCB, 0xFA], .set7D), ([0xCB, 0xFB], .set7E),
    ([0xCB, 0xFC], .set7H), ([0xCB, 0xFD], .set7L), ([0xCB, 0xFE], .set7AtHl), ([0xCB, 0xFF], .set7A)] = true := by decide

/-! The opcode table's numbering (log 11): the row's word as the table writes it, and a step that runs it after reset. -/

theorem test_table_word : decodeTableWord 8 0x41 = some .ldBC ∧ decodeTableWord 16 0xCB7E = some .bit7AtHl ∧
    decodeTableWord 24 0x1234CD = some (.callN16 0x1234) ∧ decodeTableWord 16 0x053E = some (.ldAN8 0x05) := by decide

theorem test_fetch_word : after (fun t => (t.a, t.pc)) (State.reset.withFetchWord 16 0x053E) = some (0x05, 2) ∧
    after (fun t => (t.zf, t.pc)) (State.reset.withFetchWord 16 0xCB7F) = some (true, 2) ∧
    faultOf (State.reset.withFetchWord 8 0x27) = some (.unimplementedOpcode 0x27 false 0) := by decide

/-! ## Reset (log 1 to log 5, log 8): with nothing placed, the byte at PC is 0x00, a nop -/

theorem test_reset : State.reset.mem = [] ∧ State.reset.accessors = .plainRam ∧ State.reset.dispatch = .primaryFetch ∧
    State.reset.config.retCcTakenCost = 4 ∧
    after (fun t => (t.pc, t.outcome)) State.reset = some (1, .ok) := by decide

/-! ## One step: the rows of 95_test_vectors.md section 2, at least one for each rule -/

-- row 40.1, ld b, c
theorem test_v40_1 : after (fun t => (t.b, t.zf, t.cf, t.pc, t.cycles)) (place 0x0100 [0x41] { start with c := 0x5A, zf := true, cf := true }) =
    some (0x5A, true, true, 0x0101, 9) := by decide

-- row 40.3, ld e, n8
theorem test_v40_3 : after (fun t => (t.e, t.zf, t.cf, t.pc, t.cycles)) (place 0x0100 [0x1E, 0x80] start) =
    some (0x80, false, false, 0x0102, 8) := by decide

-- row 40.4, ld a, [hl]
theorem test_v40_4 : after (fun t => (t.a, t.zf, t.cf, t.pc, t.cycles)) (place 0x0100 [0x7E] { start with h := 0xC0, l := 0x00, mem := [(0xC000, 0x77)] }) =
    some (0x77, false, false, 0x0101, 8) := by decide

-- row 40.5, ld [hl], h
theorem test_v40_5 : after (fun t => (t.peek 0xC012, t.zf, t.cf, t.pc, t.cycles)) (place 0x0100 [0x74] { start with h := 0xC0, l := 0x12 }) =
    some (0xC0, false, false, 0x0101, 8) := by decide

-- row 40.6, ld [hl], n8
theorem test_v40_6 : after (fun t => (t.peek 0xC000, t.zf, t.cf, t.pc, t.cycles)) (place 0x0100 [0x36, 0x99] { start with h := 0xC0, l := 0x00 }) =
    some (0x99, false, false, 0x0102, 7) := by decide

-- row 40.7, ld a, [bc]
theorem test_v40_7 : after (fun t => (t.a, t.zf, t.cf, t.pc, t.cycles)) (place 0x0100 [0x0A] { start with b := 0xC1, c := 0x23, mem := [(0xC123, 0x5E)] }) =
    some (0x5E, false, false, 0x0101, 8) := by decide

-- row 40.8, ld [de], a
theorem test_v40_8 : after (fun t => (t.peek 0xC001, t.zf, t.cf, t.pc, t.cycles)) (place 0x0100 [0x12] { start with a := 0x42, d := 0xC0, e := 0x01 }) =
    some (0x42, false, false, 0x0101, 8) := by decide

-- row 40.9, ld a, [n16]
theorem test_v40_9 : after (fun t => (t.a, t.zf, t.cf, t.pc, t.cycles)) (place 0x0100 [0xFA, 0x34, 0x12] { start with mem := [(0x1234, 0xAB)] }) =
    some (0xAB, false, false, 0x0103, 6) := by decide

-- row 40.10, ld [n16], a
theorem test_v40_10 : after (fun t => (t.peek 0xFFFF, t.zf, t.cf, t.pc, t.cycles)) (place 0x0100 [0xEA, 0xFF, 0xFF] { start with a := 0x11 }) =
    some (0x11, false, false, 0x0103, 6) := by decide

-- row 40.11, ldh a, [n8]
theorem test_v40_11 : after (fun t => (t.a, t.zf, t.cf, t.pc, t.cycles)) (place 0x0100 [0xF0, 0x44] { start with mem := [(0xFF44, 0x90)] }) =
    some (0x90, false, false, 0x0102, 7) := by decide

-- row 40.12, ldh [n8], a
theorem test_v40_12 : after (fun t => (t.peek 0xFFFF, t.zf, t.cf, t.pc, t.cycles)) (place 0x0100 [0xE0, 0xFF] { start with a := 0x1F }) =
    some (0x1F, false, false, 0x0102, 7) := by decide

-- row 40.13, ld a, [c]
theorem test_v40_13 : after (fun t => (t.a, t.zf, t.cf, t.pc, t.cycles)) (place 0x0100 [0xF2] { start with c := 0x80, mem := [(0xFF80, 0x66)] }) =
    some (0x66, false, false, 0x0101, 8) := by decide

-- row 40.14, ld [c], a
theorem test_v40_14 : after (fun t => (t.peek 0xFF00, t.zf, t.cf, t.pc, t.cycles)) (place 0x0100 [0xE2] { start with a := 0x07, c := 0x00 }) =
    some (0x07, false, false, 0x0101, 8) := by decide

-- row 40.15, ld [hl+], a
theorem test_v40_15 : after (fun t => ((t.h, t.l, t.peek 0xFFFF), t.zf, t.cf, t.pc, t.cycles)) (place 0x0100 [0x22] { start with a := 0x01, h := 0xFF, l := 0xFF }) =
    some ((0x00, 0x00, 0x01), false, false, 0x0101, 8) := by decide

-- row 40.16, ld [hl-], a
theorem test_v40_16 : after (fun t => ((t.h, t.l, t.peek 0x0000), t.zf, t.cf, t.pc, t.cycles)) (place 0x0100 [0x32] { start with a := 0x02, h := 0x00, l := 0x00 }) =
    some ((0xFF, 0xFF, 0x02), false, false, 0x0101, 8) := by decide

-- row 40.17, ld a, [hl+]
theorem test_v40_17 : after (fun t => ((t.a, t.h, t.l), t.zf, t.cf, t.pc, t.cycles)) (place 0x0100 [0x2A] { start with h := 0xC0, l := 0xFF, mem := [(0xC0FF, 0x3A)] }) =
    some ((0x3A, 0xC1, 0x00), false, false, 0x0101, 8) := by decide

-- row 40.18, ld a, [hl-]
theorem test_v40_18 : after (fun t => ((t.a, t.h, t.l), t.zf, t.cf, t.pc, t.cycles)) (place 0x0100 [0x3A] { start with h := 0xC1, l := 0x00, mem := [(0xC100, 0x3B)] }) =
    some ((0x3B, 0xC0, 0xFF), false, false, 0x0101, 8) := by decide

-- row 40.19, ld bc, n16
theorem test_v40_19 : after (fun t => ((t.b, t.c), t.zf, t.cf, t.pc, t.cycles)) (place 0x0100 [0x01, 0x34, 0x12] start) =
    some ((0x12, 0x34), false, false, 0x0103, 7) := by decide

-- row 40.21, ld [n16], sp
theorem test_v40_21 : after (fun t => ((t.peek 0xC000, t.peek 0xC001), t.zf, t.cf, t.pc, t.cycles)) (place 0x0100 [0x08, 0x00, 0xC0] { start with sp := 0xABCD }) =
    some ((0xCD, 0xAB), false, false, 0x0103, 5) := by decide

-- row 40.23, ld sp, hl
theorem test_v40_23 : after (fun t => (t.sp, t.zf, t.cf, t.pc, t.cycles)) (place 0x0100 [0xF9] { start with h := 0x12, l := 0x34 }) =
    some (0x1234, false, false, 0x0101, 8) := by decide

-- row 40.24, push bc
theorem test_v40_24 : after (fun t => ((t.sp, t.peek 0xFFFE, t.peek 0xFFFF), t.zf, t.cf, t.pc, t.cycles)) (place 0x0100 [0xC5] { start with b := 0x12, c := 0x34, sp := 0x0000 }) =
    some ((0xFFFE, 0x34, 0x12), false, false, 0x0101, 6) := by decide

-- row 40.26, push af
theorem test_v40_26 : after (fun t => ((t.sp, t.peek 0xCFFE, t.peek 0xCFFF), t.zf, t.cf, t.pc, t.cycles)) (place 0x0100 [0xF5] { start with a := 0x12, zf := true, cf := false, sp := 0xD000 }) =
    some ((0xCFFE, 0x80, 0x12), true, false, 0x0101, 6) := by decide

-- row 40.28, pop de
theorem test_v40_28 : after (fun t => ((t.d, t.e, t.sp), t.zf, t.cf, t.pc, t.cycles)) (place 0x0100 [0xD1] { start with sp := 0xFFFF, mem := [(0x0000, 0x12), (0xFFFF, 0x34)] }) =
    some ((0x12, 0x34, 0x0001), false, false, 0x0101, 7) := by decide

-- row 40.29, pop af
theorem test_v40_29 : after (fun t => ((t.a, t.sp), t.zf, t.cf, t.pc, t.cycles)) (place 0x0100 [0xF1] { start with sp := 0xCFFE, zf := false, cf := false, mem := [(0xCFFE, 0xFF), (0xCFFF, 0x12)] }) =
    some ((0x12, 0xD000), true, true, 0x0101, 7) := by decide

-- row 41.1, inc b
theorem test_v41_1 : after (fun t => (t.b, t.zf, t.cf, t.pc, t.cycles)) (place 0x0100 [0x04] { start with b := 0xFF, cf := true }) =
    some (0x00, true, true, 0x0101, 9) := by decide

-- row 41.3, inc [hl]
theorem test_v41_3 : after (fun t => (t.peek 0xC000, t.zf, t.cf, t.pc, t.cycles)) (place 0x0100 [0x34] { start with h := 0xC0, l := 0x00, cf := false, mem := [(0xC000, 0xFF)] }) =
    some (0x00, true, false, 0x0101, 7) := by decide

-- row 41.4, dec c
theorem test_v41_4 : after (fun t => (t.c, t.zf, t.cf, t.pc, t.cycles)) (place 0x0100 [0x0D] { start with c := 0x01 }) =
    some (0x00, true, false, 0x0101, 9) := by decide

-- row 41.5, dec c
theorem test_v41_5 : after (fun t => (t.c, t.zf, t.cf, t.pc, t.cycles)) (place 0x0100 [0x0D] { start with c := 0x00, zf := true, cf := true }) =
    some (0xFF, false, true, 0x0101, 9) := by decide

-- row 41.6, dec [hl]
theorem test_v41_6 : after (fun t => (t.peek 0xC000, t.zf, t.cf, t.pc, t.cycles)) (place 0x0100 [0x35] { start with h := 0xC0, l := 0x00, mem := [] }) =
    some (0xFF, false, false, 0x0101, 7) := by decide

-- row 41.7, add a, a
theorem test_v41_7 : after (fun t => (t.a, t.zf, t.cf, t.pc, t.cycles)) (place 0x0100 [0x87] { start with a := 0x80 }) =
    some (0x00, true, true, 0x0101, 9) := by decide

-- row 41.9, add a, [hl]
theorem test_v41_9 : after (fun t => (t.a, t.zf, t.cf, t.pc, t.cycles)) (place 0x0100 [0x86] { start with a := 0xF0, h := 0xC0, l := 0x00, mem := [(0xC000, 0x20)] }) =
    some (0x10, false, true, 0x0101, 8) := by decide

-- row 41.10, add a, n8
theorem test_v41_10 : after (fun t => (t.a, t.zf, t.cf, t.pc, t.cycles)) (place 0x0100 [0xC6, 0xFF] { start with a := 0x01 }) =
    some (0x00, true, true, 0x0102, 8) := by decide

-- row 41.11, adc a, c
theorem test_v41_11 : after (fun t => (t.a, t.zf, t.cf, t.pc, t.cycles)) (place 0x0100 [0x89] { start with a := 0xFF, c := 0x00, cf := true }) =
    some (0x00, true, true, 0x0101, 9) := by decide

-- row 41.13, adc a, [hl]
theorem test_v41_13 : after (fun t => (t.a, t.zf, t.cf, t.pc, t.cycles)) (place 0x0100 [0x8E] { start with a := 0x7F, h := 0xC0, l := 0x00, cf := true, mem := [(0xC000, 0x80)] }) =
    some (0x00, true, true, 0x0101, 8) := by decide

-- row 41.14, adc a, n8
theorem test_v41_14 : after (fun t => (t.a, t.zf, t.cf, t.pc, t.cycles)) (place 0x0100 [0xCE, 0x01] { start with a := 0x01, cf := true }) =
    some (0x03, false, false, 0x0102, 8) := by decide

-- row 41.15, sub a, b
theorem test_v41_15 : after (fun t => (t.a, t.zf, t.cf, t.pc, t.cycles)) (place 0x0100 [0x90] { start with a := 0x00, b := 0x01 }) =
    some (0xFF, false, true, 0x0101, 9) := by decide

-- row 41.17, sub a, [hl]
theorem test_v41_17 : after (fun t => (t.a, t.zf, t.cf, t.pc, t.cycles)) (place 0x0100 [0x96] { start with a := 0x10, h := 0xC0, l := 0x00, mem := [(0xC000, 0x10)] }) =
    some (0x00, true, false, 0x0101, 8) := by decide

-- row 41.18, sub a, n8
theorem test_v41_18 : after (fun t => (t.a, t.zf, t.cf, t.pc, t.cycles)) (place 0x0100 [0xD6, 0x01] { start with a := 0x80 }) =
    some (0x7F, false, false, 0x0102, 8) := by decide

-- row 41.19, sbc a, b
theorem test_v41_19 : after (fun t => (t.a, t.zf, t.cf, t.pc, t.cycles)) (place 0x0100 [0x98] { start with a := 0x05, b := 0x03, cf := true }) =
    some (0x01, false, false, 0x0101, 9) := by decide

-- row 41.20, sbc a, a
theorem test_v41_20 : after (fun t => (t.a, t.zf, t.cf, t.pc, t.cycles)) (place 0x0100 [0x9F] { start with a := 0x42, cf := true }) =
    some (0xFF, false, true, 0x0101, 9) := by decide

-- row 41.21, sbc a, [hl]
theorem test_v41_21 : after (fun t => (t.zf, t.cf, t.pc, t.cycles)) (place 0x0100 [0x9E] { start with a := 0x00, h := 0xC0, l := 0x00, cf := false, mem := [] }) =
    some (true, false, 0x0101, 8) := by decide

-- row 41.22, sbc a, n8
theorem test_v41_22 : after (fun t => (t.zf, t.cf, t.pc, t.cycles)) (place 0x0100 [0xDE, 0xFF] { start with a := 0x00, cf := true }) =
    some (true, true, 0x0102, 8) := by decide

-- row 41.24, and a, b
theorem test_v41_24 : after (fun t => (t.a, t.zf, t.cf, t.pc, t.cycles)) (place 0x0100 [0xA0] { start with a := 0xF0, b := 0x0F, cf := true }) =
    some (0x00, true, false, 0x0101, 9) := by decide

-- row 41.25, and a, [hl]
theorem test_v41_25 : after (fun t => (t.a, t.zf, t.cf, t.pc, t.cycles)) (place 0x0100 [0xA6] { start with a := 0x3C, h := 0xC0, l := 0x00, mem := [(0xC000, 0x0F)] }) =
    some (0x0C, false, false, 0x0101, 8) := by decide

-- row 41.26, and a, n8
theorem test_v41_26 : after (fun t => (t.a, t.zf, t.cf, t.pc, t.cycles)) (place 0x0100 [0xE6, 0x80] { start with a := 0x81, zf := true, cf := true }) =
    some (0x80, false, false, 0x0102, 8) := by decide

-- row 41.27, xor a, a
theorem test_v41_27 : after (fun t => (t.a, t.zf, t.cf, t.pc, t.cycles)) (place 0x0100 [0xAF] { start with a := 0x5A, cf := true }) =
    some (0x00, true, false, 0x0101, 9) := by decide

-- row 41.28, xor a, [hl]
theorem test_v41_28 : after (fun t => (t.a, t.zf, t.cf, t.pc, t.cycles)) (place 0x0100 [0xAE] { start with a := 0xFF, h := 0xC0, l := 0x00, mem := [(0xC000, 0x0F)] }) =
    some (0xF0, false, false, 0x0101, 8) := by decide

-- row 41.29, xor a, n8
theorem test_v41_29 : after (fun t => (t.a, t.zf, t.cf, t.pc, t.cycles)) (place 0x0100 [0xEE, 0xFF] { start with a := 0x00 }) =
    some (0xFF, false, false, 0x0102, 8) := by decide

-- row 41.30, or a, c
theorem test_v41_30 : after (fun t => (t.zf, t.cf, t.pc, t.cycles)) (place 0x0100 [0xB1] { start with a := 0x00, c := 0x00, cf := true }) =
    some (true, false, 0x0101, 9) := by decide

-- row 41.31, or a, [hl]
theorem test_v41_31 : after (fun t => (t.a, t.zf, t.cf, t.pc, t.cycles)) (place 0x0100 [0xB6] { start with a := 0x01, h := 0xC0, l := 0x00, mem := [(0xC000, 0x80)] }) =
    some (0x81, false, false, 0x0101, 8) := by decide

-- row 41.32, or a, n8
theorem test_v41_32 : after (fun t => (t.zf, t.cf, t.pc, t.cycles)) (place 0x0100 [0xF6, 0x00] { start with a := 0x00 }) =
    some (true, false, 0x0102, 8) := by decide

-- row 41.33, cp a, b
theorem test_v41_33 : after (fun t => (t.zf, t.cf, t.pc, t.cycles)) (place 0x0100 [0xB8] { start with a := 0x3C, b := 0x3C, cf := true }) =
    some (true, false, 0x0101, 9) := by decide

-- row 41.35, cp a, [hl]
theorem test_v41_35 : after (fun t => (t.zf, t.cf, t.pc, t.cycles)) (place 0x0100 [0xBE] { start with a := 0x3C, h := 0xC0, l := 0x00, mem := [(0xC000, 0x2F)] }) =
    some (false, false, 0x0101, 8) := by decide

-- row 41.36, cp a, n8
theorem test_v41_36 : after (fun t => (t.zf, t.cf, t.pc, t.cycles)) (place 0x0100 [0xFE, 0x00] { start with a := 0x00, cf := true }) =
    some (true, false, 0x0102, 8) := by decide

-- row 41.37, daa
theorem test_v41_37 : faultOf (place 0x0100 [0x27] { start with a := 0x15 }) = some (.unimplementedOpcode 0x27 false 0x0100) := by decide

-- row 41.38, cpl
theorem test_v41_38 : after (fun t => (t.a, t.zf, t.cf, t.pc, t.cycles)) (place 0x0100 [0x2F] { start with a := 0x35, zf := true, cf := true }) =
    some (0xCA, true, true, 0x0101, 9) := by decide

-- row 41.39, scf
theorem test_v41_39 : after (fun t => (t.zf, t.cf, t.pc, t.cycles)) (place 0x0100 [0x37] { start with zf := true, cf := false }) =
    some (true, true, 0x0101, 9) := by decide

-- row 41.40, ccf
theorem test_v41_40 : after (fun t => (t.zf, t.cf, t.pc, t.cycles)) (place 0x0100 [0x3F] { start with cf := true }) =
    some (false, false, 0x0101, 9) := by decide

-- row 42.1, inc bc
theorem test_v42_1 : after (fun t => ((t.b, t.c), t.zf, t.cf, t.pc, t.cycles)) (place 0x0100 [0x03] { start with b := 0x00, c := 0xFF }) =
    some ((0x01, 0x00), false, false, 0x0101, 8) := by decide

-- row 42.2, inc sp
theorem test_v42_2 : after (fun t => (t.sp, t.zf, t.cf, t.pc, t.cycles)) (place 0x0100 [0x33] { start with sp := 0xFFFF, zf := false, cf := false }) =
    some (0x0000, false, false, 0x0101, 8) := by decide

-- row 42.3, dec de
theorem test_v42_3 : after (fun t => ((t.d, t.e), t.zf, t.cf, t.pc, t.cycles)) (place 0x0100 [0x1B] { start with d := 0x00, e := 0x00 }) =
    some ((0xFF, 0xFF), false, false, 0x0101, 8) := by decide

-- row 42.4, dec sp
theorem test_v42_4 : after (fun t => (t.sp, t.zf, t.cf, t.pc, t.cycles)) (place 0x0100 [0x3B] { start with sp := 0x0000 }) =
    some (0xFFFF, false, false, 0x0101, 8) := by decide

-- row 42.5, add hl, bc
theorem test_v42_5 : after (fun t => ((t.h, t.l), t.zf, t.cf, t.pc, t.cycles)) (place 0x0100 [0x09] { start with h := 0xFF, l := 0xFF, b := 0x00, c := 0x01, zf := false }) =
    some ((0x00, 0x00), false, true, 0x0101, 8) := by decide

-- row 42.6, add hl, hl
theorem test_v42_6 : after (fun t => ((t.h, t.l), t.zf, t.cf, t.pc, t.cycles)) (place 0x0100 [0x29] { start with h := 0x80, l := 0x01 }) =
    some ((0x00, 0x02), false, true, 0x0101, 8) := by decide

-- row 42.8, add sp, e8
theorem test_v42_8 : after (fun t => (t.sp, t.zf, t.cf, t.pc, t.cycles)) (place 0x0100 [0xE8, 0x01] { start with sp := 0x00FF, zf := true }) =
    some (0x0100, false, true, 0x0102, 6) := by decide

-- row 42.9, add sp, e8
theorem test_v42_9 : after (fun t => (t.sp, t.zf, t.cf, t.pc, t.cycles)) (place 0x0100 [0xE8, 0xFF] { start with sp := 0x0000 }) =
    some (0xFFFF, false, false, 0x0102, 6) := by decide

-- row 42.12, ld hl, sp+e8
theorem test_v42_12 : after (fun t => ((t.h, t.l), t.zf, t.cf, t.pc, t.cycles)) (place 0x0100 [0xF8, 0x02] { start with sp := 0xFFFE, zf := true }) =
    some ((0x00, 0x00), false, true, 0x0102, 7) := by decide

-- row 43.1, jr e8
theorem test_v43_1 : after (fun t => (t.zf, t.cf, t.pc, t.cycles)) (place 0x0100 [0x18, 0x00] start) =
    some (false, false, 0x0102, 7) := by decide

-- row 43.9, jr nz, e8
theorem test_v43_9 : after (fun t => (t.zf, t.cf, t.pc, t.cycles)) (place 0x0100 [0x20, 0x05] { start with zf := true }) =
    some (true, false, 0x0102, 8) := by decide

-- row 43.10, jr nz, e8
theorem test_v43_10 : after (fun t => (t.zf, t.cf, t.pc, t.cycles)) (place 0x0100 [0x20, 0x05] { start with zf := false }) =
    some (false, false, 0x0107, 7) := by decide

-- row 43.14, jp n16
theorem test_v43_14 : after (fun t => (t.zf, t.cf, t.pc, t.cycles)) (place 0x0100 [0xC3, 0x00, 0x80] start) =
    some (false, false, 0x8000, 6) := by decide

-- row 43.15, jp nz, n16
theorem test_v43_15 : after (fun t => (t.zf, t.cf, t.pc, t.cycles)) (place 0x0100 [0xC2, 0x00, 0x80] { start with zf := false }) =
    some (false, false, 0x8000, 6) := by decide

-- row 43.16, jp z, n16
theorem test_v43_16 : after (fun t => (t.zf, t.cf, t.pc, t.cycles)) (place 0x0100 [0xCA, 0x00, 0x80] { start with zf := false }) =
    some (false, false, 0x0103, 7) := by decide

-- row 43.19, jp hl
theorem test_v43_19 : after (fun t => (t.zf, t.cf, t.pc, t.cycles)) (place 0x0100 [0xE9] { start with h := 0xC0, l := 0x00 }) =
    some (false, false, 0xC000, 9) := by decide

-- row 43.20, call n16
theorem test_v43_20 : after (fun t => ((t.sp, t.peek 0xFFFC, t.peek 0xFFFD), t.zf, t.cf, t.pc, t.cycles)) (place 0x0200 [0xCD, 0x34, 0x12] { start with sp := 0xFFFE }) =
    some ((0xFFFC, 0x03, 0x02), false, false, 0x1234, 4) := by decide

-- row 43.22, call nc, n16
theorem test_v43_22 : after (fun t => (t.zf, t.cf, t.pc, t.cycles)) (place 0x0200 [0xD4, 0x34, 0x12] { start with sp := 0xFFFE, cf := true }) =
    some (false, true, 0x0203, 7) := by decide

-- row 43.23, call nc, n16
theorem test_v43_23 : after (fun t => ((t.sp, t.peek 0xFFFC, t.peek 0xFFFD), t.zf, t.cf, t.pc, t.cycles)) (place 0x0200 [0xD4, 0x34, 0x12] { start with sp := 0xFFFE, cf := false }) =
    some ((0xFFFC, 0x03, 0x02), false, false, 0x1234, 4) := by decide

-- row 43.25, ret
theorem test_v43_25 : after (fun t => (t.sp, t.zf, t.cf, t.pc, t.cycles)) (place 0x1234 [0xC9] { start with sp := 0xFFFC, mem := [(0xFFFC, 0x03), (0xFFFD, 0x02)] }) =
    some (0xFFFE, false, false, 0x0203, 6) := by decide

-- row 43.27, ret nz
theorem test_v43_27 : after (fun t => (t.zf, t.cf, t.pc, t.cycles)) (place 0x1234 [0xC0] { start with sp := 0xFFFC, zf := true }) =
    some (true, false, 0x1235, 8) := by decide

-- row 43.29, ret c
theorem test_v43_29 : after (fun t => (t.sp, t.zf, t.cf, t.pc, t.cycles)) (place 0x1234 [0xD8] { start with sp := 0xFFFC, cf := true, mem := [(0xFFFC, 0x03), (0xFFFD, 0x02)] }) =
    some (0xFFFE, false, true, 0x0203, 6) := by decide

-- row 43.30, reti
theorem test_v43_30 : after (fun t => ((t.sp, t.ime), t.zf, t.cf, t.pc, t.cycles)) (place 0x1234 [0xD9] { start with sp := 0xFFFC, ime := false, mem := [(0xFFFC, 0x50)] }) =
    some ((0xFFFE, true), false, false, 0x0050, 6) := by decide

-- row 43.31, rst $00
theorem test_v43_31 : after (fun t => ((t.sp, t.peek 0xFFFC, t.peek 0xFFFD), t.zf, t.cf, t.pc, t.cycles)) (place 0x1234 [0xC7] { start with sp := 0xFFFE }) =
    some ((0xFFFC, 0x35, 0x12), false, false, 0x0000, 6) := by decide

-- row 45.1, rlca
theorem test_v45_1 : after (fun t => (t.a, t.zf, t.cf, t.pc, t.cycles)) (place 0x0100 [0x07] { start with a := 0x85, zf := true }) =
    some (0x0B, false, true, 0x0101, 9) := by decide

-- row 45.3, rrca
theorem test_v45_3 : after (fun t => (t.a, t.zf, t.cf, t.pc, t.cycles)) (place 0x0100 [0x0F] { start with a := 0x01 }) =
    some (0x80, false, true, 0x0101, 9) := by decide

-- row 45.4, rla
theorem test_v45_4 : after (fun t => (t.a, t.zf, t.cf, t.pc, t.cycles)) (place 0x0100 [0x17] { start with a := 0x80, cf := false }) =
    some (0x00, false, true, 0x0101, 9) := by decide

-- row 45.6, rra
theorem test_v45_6 : after (fun t => (t.a, t.zf, t.cf, t.pc, t.cycles)) (place 0x0100 [0x1F] { start with a := 0x01, cf := true }) =
    some (0x80, false, true, 0x0101, 9) := by decide

-- row 45.7, rlc b
theorem test_v45_7 : after (fun t => (t.b, t.zf, t.cf, t.pc, t.cycles)) (place 0x0100 [0xCB, 0x00] { start with b := 0x80 }) =
    some (0x01, false, true, 0x0102, 8) := by decide

-- row 45.9, rlc [hl]
theorem test_v45_9 : after (fun t => (t.peek 0xC000, t.zf, t.cf, t.pc, t.cycles)) (place 0x0100 [0xCB, 0x06] { start with h := 0xC0, l := 0x00, mem := [(0xC000, 0xC0)] }) =
    some (0x81, false, true, 0x0102, 6) := by decide

-- row 45.10, rrc c
theorem test_v45_10 : after (fun t => (t.c, t.zf, t.cf, t.pc, t.cycles)) (place 0x0100 [0xCB, 0x09] { start with c := 0x01 }) =
    some (0x80, false, true, 0x0102, 8) := by decide

-- row 45.11, rrc [hl]
theorem test_v45_11 : after (fun t => (t.peek 0xC000, t.zf, t.cf, t.pc, t.cycles)) (place 0x0100 [0xCB, 0x0E] { start with h := 0xC0, l := 0x00, cf := true, mem := [(0xC000, 0x02)] }) =
    some (0x01, false, false, 0x0102, 6) := by decide

-- row 45.12, rl d
theorem test_v45_12 : after (fun t => (t.d, t.zf, t.cf, t.pc, t.cycles)) (place 0x0100 [0xCB, 0x12] { start with d := 0x80, cf := false }) =
    some (0x00, true, true, 0x0102, 8) := by decide

-- row 45.13, rl [hl]
theorem test_v45_13 : after (fun t => (t.peek 0xC000, t.zf, t.cf, t.pc, t.cycles)) (place 0x0100 [0xCB, 0x16] { start with h := 0xC0, l := 0x00, cf := true, mem := [] }) =
    some (0x01, false, false, 0x0102, 6) := by decide

-- row 45.14, rr e
theorem test_v45_14 : after (fun t => (t.e, t.zf, t.cf, t.pc, t.cycles)) (place 0x0100 [0xCB, 0x1B] { start with e := 0x01, cf := false }) =
    some (0x00, true, true, 0x0102, 8) := by decide

-- row 45.15, rr [hl]
theorem test_v45_15 : after (fun t => (t.peek 0xC000, t.zf, t.cf, t.pc, t.cycles)) (place 0x0100 [0xCB, 0x1E] { start with h := 0xC0, l := 0x00, cf := true, mem := [] }) =
    some (0x80, false, false, 0x0102, 6) := by decide

-- row 45.16, sla h
theorem test_v45_16 : after (fun t => (t.h, t.zf, t.cf, t.pc, t.cycles)) (place 0x0100 [0xCB, 0x24] { start with h := 0xFF }) =
    some (0xFE, false, true, 0x0102, 8) := by decide

-- row 45.17, sla [hl]
theorem test_v45_17 : after (fun t => (t.peek 0xC000, t.zf, t.cf, t.pc, t.cycles)) (place 0x0100 [0xCB, 0x26] { start with h := 0xC0, l := 0x00, mem := [(0xC000, 0x80)] }) =
    some (0x00, true, true, 0x0102, 6) := by decide

-- row 45.18, sra l
theorem test_v45_18 : after (fun t => (t.l, t.zf, t.cf, t.pc, t.cycles)) (place 0x0100 [0xCB, 0x2D] { start with l := 0x81 }) =
    some (0xC0, false, true, 0x0102, 8) := by decide

-- row 45.19, sra [hl]
theorem test_v45_19 : after (fun t => (t.peek 0xC000, t.zf, t.cf, t.pc, t.cycles)) (place 0x0100 [0xCB, 0x2E] { start with h := 0xC0, l := 0x00, mem := [(0xC000, 0x01)] }) =
    some (0x00, true, true, 0x0102, 6) := by decide

-- row 45.20, swap a
theorem test_v45_20 : after (fun t => (t.a, t.zf, t.cf, t.pc, t.cycles)) (place 0x0100 [0xCB, 0x37] { start with a := 0xF0, cf := true }) =
    some (0x0F, false, false, 0x0102, 8) := by decide

-- row 45.22, swap [hl]
theorem test_v45_22 : after (fun t => (t.peek 0xC000, t.zf, t.cf, t.pc, t.cycles)) (place 0x0100 [0xCB, 0x36] { start with h := 0xC0, l := 0x00, mem := [(0xC000, 0x12)] }) =
    some (0x21, false, false, 0x0102, 6) := by decide

-- row 45.23, srl a
theorem test_v45_23 : after (fun t => (t.a, t.zf, t.cf, t.pc, t.cycles)) (place 0x0100 [0xCB, 0x3F] { start with a := 0x01 }) =
    some (0x00, true, true, 0x0102, 8) := by decide

-- row 45.24, srl [hl]
theorem test_v45_24 : after (fun t => (t.peek 0xC000, t.zf, t.cf, t.pc, t.cycles)) (place 0x0100 [0xCB, 0x3E] { start with h := 0xC0, l := 0x00, mem := [(0xC000, 0xFF)] }) =
    some (0x7F, false, true, 0x0102, 6) := by decide

-- row 45.25, bit 7, h
theorem test_v45_25 : after (fun t => (t.zf, t.cf, t.pc, t.cycles)) (place 0x0100 [0xCB, 0x7C] { start with h := 0x80, zf := true, cf := true }) =
    some (false, true, 0x0102, 8) := by decide

-- row 45.26, bit 7, h
theorem test_v45_26 : after (fun t => (t.zf, t.cf, t.pc, t.cycles)) (place 0x0100 [0xCB, 0x7C] { start with h := 0x7F }) =
    some (true, false, 0x0102, 8) := by decide

-- row 45.28, bit 0, [hl]
theorem test_v45_28 : after (fun t => (t.zf, t.cf, t.pc, t.cycles)) (place 0x0100 [0xCB, 0x46] { start with h := 0xC0, l := 0x00, mem := [(0xC000, 0x01)] }) =
    some (false, false, 0x0102, 7) := by decide

-- row 45.29, res 0, a
theorem test_v45_29 : after (fun t => (t.a, t.zf, t.cf, t.pc, t.cycles)) (place 0x0100 [0xCB, 0x87] { start with a := 0xFF, zf := true, cf := true }) =
    some (0xFE, true, true, 0x0102, 8) := by decide

-- row 45.31, res 7, [hl]
theorem test_v45_31 : after (fun t => (t.peek 0xC000, t.zf, t.cf, t.pc, t.cycles)) (place 0x0100 [0xCB, 0xBE] { start with h := 0xC0, l := 0x00, mem := [(0xC000, 0xFF)] }) =
    some (0x7F, false, false, 0x0102, 6) := by decide

-- row 45.32, set 0, b
theorem test_v45_32 : after (fun t => (t.b, t.zf, t.cf, t.pc, t.cycles)) (place 0x0100 [0xCB, 0xC0] { start with b := 0x00, zf := true }) =
    some (0x01, true, false, 0x0102, 8) := by decide

-- row 45.34, set 7, [hl]
theorem test_v45_34 : after (fun t => (t.peek 0xC000, t.zf, t.cf, t.pc, t.cycles)) (place 0x0100 [0xCB, 0xFE] { start with h := 0xC0, l := 0x00, mem := [] }) =
    some (0x80, false, false, 0x0102, 6) := by decide

-- row 44.1, nop
theorem test_v44_1 : after (fun t => (t.zf, t.cf, t.pc, t.cycles)) (place 0x0100 [0x00] start) =
    some (false, false, 0x0101, 9) := by decide

-- row 44.2, halt
theorem test_v44_2 : after (fun t => (t.zf, t.cf, t.pc, t.cycles, t.outcome)) (place 0x0100 [0x76] start) =
    some (false, false, 0x0101, 9, .halted) := by decide

-- row 44.3, stop
theorem test_v44_3 : after (fun t => (t.zf, t.cf, t.pc, t.cycles, t.outcome)) (place 0x0100 [0x10, 0x00] start) =
    some (false, false, 0x0102, 9, .stopped) := by decide

-- row 44.5, di
theorem test_v44_5 : after (fun t => (t.ime, t.zf, t.cf, t.pc, t.cycles)) (place 0x0100 [0xF3] { start with ime := true }) =
    some (false, false, false, 0x0101, 9) := by decide

-- row 44.7, ei
theorem test_v44_7 : after (fun t => (t.ime, t.zf, t.cf, t.pc, t.cycles)) (place 0x0100 [0xFB] { start with ime := false }) =
    some (true, false, false, 0x0101, 9) := by decide

-- row 44.8, (unassigned)
theorem test_v44_8 : faultOf (place 0x0100 [0xD3] start) = some (.unimplementedOpcode 0xD3 false 0x0100) := by decide

/-! ## The accesses of one step, in order: 95_test_vectors.md section 2.7 -/

-- `call n16`
theorem test_bus_1 : after State.bus (place 0x0100 [0xCD, 0x34, 0x12] { start with sp := 0xFFFE }) =
    some [.read 0x0100, .read 0x0101, .read 0x0102, .write 0xFFFC 0x03, .write 0xFFFD 0x01] := by decide

-- `call nz, n16` (not taken)
theorem test_bus_2 : after State.bus (place 0x0100 [0xC4, 0x34, 0x12] { start with sp := 0xFFFE, zf := true }) =
    some [.read 0x0100, .read 0x0101, .read 0x0102] := by decide

-- `ret`
theorem test_bus_3 : after State.bus (place 0x0100 [0xC9] { start with sp := 0xFFFC }) =
    some [.read 0x0100, .read 0xFFFC, .read 0xFFFD] := by decide

-- `ret nz` (not taken)
theorem test_bus_4 : after State.bus (place 0x0100 [0xC0] { start with sp := 0xFFFC, zf := true }) =
    some [.read 0x0100] := by decide

-- `push af`
theorem test_bus_5 : after State.bus (place 0x0100 [0xF5] { start with sp := 0xD000, a := 0x12, zf := true }) =
    some [.read 0x0100, .write 0xCFFE 0x80, .write 0xCFFF 0x12] := by decide

-- `pop af`
theorem test_bus_6 : after State.bus (place 0x0100 [0xF1] { start with sp := 0xCFFE }) =
    some [.read 0x0100, .read 0xCFFE, .read 0xCFFF] := by decide

-- `inc [hl]`
theorem test_bus_7 : after State.bus (place 0x0100 [0x34] { start with h := 0xC0, l := 0x00 }) =
    some [.read 0x0100, .read 0xC000, .write 0xC000 0x01] := by decide

-- `ld [n16], sp`
theorem test_bus_8 : after State.bus (place 0x0100 [0x08, 0x00, 0xC0] { start with sp := 0xABCD }) =
    some [.read 0x0100, .read 0x0101, .read 0x0102, .write 0xC000 0xCD, .write 0xC001 0xAB] := by decide

-- `rlc [hl]`
theorem test_bus_9 : after State.bus (place 0x0100 [0xCB, 0x06] { start with h := 0xC0, l := 0x00 }) =
    some [.read 0x0100, .read 0x0101, .read 0xC000, .write 0xC000 0x00] := by decide

-- `bit 0, [hl]`
theorem test_bus_10 : after State.bus (place 0x0100 [0xCB, 0x46] { start with h := 0xC0, l := 0x00 }) =
    some [.read 0x0100, .read 0x0101, .read 0xC000] := by decide

-- `ld a, [hl+]`
theorem test_bus_11 : after State.bus (place 0x0100 [0x2A] { start with h := 0xC0, l := 0xFF }) =
    some [.read 0x0100, .read 0xC0FF] := by decide

-- `rst $38`
theorem test_bus_12 : after State.bus (place 0x0100 [0xFF] { start with sp := 0xD000 }) =
    some [.read 0x0100, .write 0xCFFE 0x01, .write 0xCFFF 0x01] := by decide

-- `jr e8`
theorem test_bus_13 : after State.bus (place 0x0100 [0x18, 0xFE] start) =
    some [.read 0x0100, .read 0x0101] := by decide

-- `halt`
theorem test_bus_14 : after State.bus (place 0x0100 [0x76] start) =
    some [.read 0x0100] := by decide

-- `stop`
theorem test_bus_15 : after State.bus (place 0x0100 [0x10, 0x00] start) =
    some [.read 0x0100, .read 0x0101] := by decide

-- `add a, b`
theorem test_bus_16 : after State.bus (place 0x0100 [0x80] start) =
    some [.read 0x0100] := by decide

/-! ## Runs: 95_test_vectors.md section 2.8 -/

-- rows 1 and 2
theorem test_run_no_budget : ran (run 0x0100 0 start) = (.ok, 0x0100, 0) ∧ ran (run 0x0100 (-3) start) = (.ok, 0x0100, -3) := by decide

-- row 3
theorem test_run_nop : ran (run 0x0100 1 start) = (.ok, 0x0101, 0) := by decide

-- row 4
theorem test_run_halt : ran (run 0x0100 10 (place 0x0100 [0x76] start)) = (.halted, 0x0101, 9) := by decide

-- row 5
theorem test_run_stop : ran (run 0x0100 10 (place 0x0100 [0x10, 0x00] start)) = (.stopped, 0x0102, 9) := by decide

-- rows 6 and 7
theorem test_run_fault : ran (run 0x0100 10 (place 0x0100 [0xDD] start)) =
    (.fault (.unimplementedOpcode 0xDD false 0x0100), 0x0100, 10) := by decide

theorem test_run_nop_then_fault : ran (run 0x0100 10 (place 0x0100 [0x00, 0xDD] start)) =
    (.fault (.unimplementedOpcode 0xDD false 0x0101), 0x0101, 9) := by decide

-- row 8: the largest overrun
theorem test_run_overrun : ran (run 0x0000 1 (place 0x0000 [0xCD, 0x00, 0x40] { start with sp := 0xD000 })) = (.ok, 0x4000, -5) := by
  decide

-- rows 9 and 10: the cost of a taken ret cc is the parameter
theorem test_run_ret_cost_five : ran (run 0x0100 5 (place 0x0100 [0xC0]
    { start with sp := 0xFFFC, mem := [(0xFFFD, 0x02)], config := { retCcTakenCost := 5 } })) = (.ok, 0x0200, 0) := by decide

theorem test_run_ret_cost_four : ran (run 0x0100 5 (place 0x0100 [0xC0] { start with sp := 0xFFFC, mem := [(0xFFFD, 0x02)] })) =
    (.ok, 0x0201, 0) := by decide

/-! ## The caller between steps: 60_exceptions.md R305 -/

theorem test_inject : (({ start with ime := true, pc := 0x1234, sp := 0x0001 } : State).injectInterrupt 0x0040).map
    (fun t : State => (t.pc, t.sp, t.ime, t.peek 0xFFFF, t.peek 0x0000)) = some (0x0040, 0xFFFF, false, 0x34, 0x12) := by decide

theorem test_inject_disabled : ({ start with ime := false } : State).injectInterrupt 0x0040 = none := by decide

/-! ## Witnesses: for each statement with hypotheses, a state and operands that meet them; where a statement has clauses, one
for each, at a boundary of its range -/

/-- Whether a step or an execution answers a next state. -/
def completes (r : Result) : Bool :=
  match r with
  | .next _ => true
  | _ => false

theorem next_of_completes {r : Result} (h : completes r = true) : ∃ t, r = .next t := by
  cases r with
  | next t => exact ⟨t, rfl⟩
  | fault f => exact Bool.noConfusion h
  | refused f => exact Bool.noConfusion h

theorem witness_DecodeOfEncodeIsTheInstruction : Instr.wellFormed (.callN16 0xFFFF) = true := by decide

theorem witness_EncodeOfDecodeIsTheBytes : decode [0xCB, 0x7E, 0xFF] = .ok (.bit7AtHl, [0xFF]) := by decide

-- 0xCD asks for three bytes: two after it are enough, one is not
theorem witness_DecodingIsTotal : lengthOf 0xCD ≤ [0x00, 0x40].length + 1 ∧ [(0x00 : Byte)].length + 1 < lengthOf 0xCD := by decide

theorem witness_TwelveOpcodesFault : ((0xD3, .unassignedD3) : Byte × Instr) ∈ faulting ∧ ((0x27, .daa) : Byte × Instr) ∈ faulting := by
  decide

theorem witness_OnlyTheTwelveFault : Instr.nop ∉ faulting.map Prod.snd ∧ Instr.ldBcN16 0xFFFF ∉ faulting.map Prod.snd := by decide

-- both sides of R300, and the two outcomes it names
theorem witness_OutcomesOfInstructions : completes (exec .halt start) = true ∧ completes (exec (.stop 0xFF) start) = true ∧
    completes (exec .nop start) = true ∧ completes (exec .daa start) = false := by decide

/-- The prefix at the last address, its second byte at the first. -/
def wrapped : State := place 0xFFFF [0xCB, 0x7E] start

/-- A core with a collaborator's BUS, the collaborator in the state 7. -/
def collaborating : State := { start with accessors := .collaborator 7 }

/-- Three bytes always hold an instruction. -/
theorem three_bytes_decode (b0 b1 b2 : Byte) : ∃ i rest, decode [b0, b1, b2] = .ok (i, rest) := by
  have h : lengthOf b0 ≤ 3 := by
    rw [lengthOf]
    cases primary b0 <;> simp [Entry.length]
  exact ⟨_, _, if_neg (by simp; omega)⟩

-- with the default BUS, at the wraparound; with a collaborator's BUS, whatever its reads return
theorem witness_StepRunsTheDecodedInstruction : decode (nextBytes wrapped) = .ok (.bit7AtHl, [0x00]) ∧
    ∃ i rest, decode (nextBytes collaborating) = .ok (i, rest) :=
  ⟨by decide, three_bytes_decode _ _ _⟩

/-- A store to the last address. -/
def storing : State := place 0x0000 [0x77] { start with a := 0x99, h := 0xFF, l := 0xFF }

theorem witness_StepKeepsInvariant : Inv storing ∧ ∃ t, step storing = .next t :=
  ⟨⟨by decide, rfl⟩, next_of_completes (by decide)⟩

/-- A state whose push or handler entry writes the last address and the first. -/
def entering : State := { start with ime := true, sp := 0x0001 }

-- IME clear; IME set with a collaborator's BUS; IME set with the default BUS, canonical memory and SP at the wraparound
theorem witness_CallerEntersAndRetiReturns : start.ime = false ∧ ({ collaborating with ime := true } : State).ime = true ∧
    entering.ime = true ∧ entering.accessors = .plainRam ∧ entering.mem.wf = true := by
  decide

theorem witness_AccessorsWriteTheNamedItem : start.accessors = .plainRam ∧ start.mem.wf = true ∧ (0x0000 : Word) ≠ 0xFFFF ∧
    collaborating.accessors = .collaborator 7 := by decide

theorem witness_PushThenPopRestores : ({ start with sp := 0x0000 } : State).accessors = .plainRam ∧
    ({ start with sp := 0x0000 } : State).mem.wf = true ∧ entering.accessors = .plainRam ∧ entering.mem.wf = true ∧
    storing.accessors = .plainRam ∧ storing.mem.wf = true := by decide

theorem witness_HaltAndStopForms : (0 : Int) < 1 ∧
    (place 0xFFFF [0x76] start).peek (place 0xFFFF [0x76] start).pc = 0x76 ∧
    (place 0xFFFF [0x10, 0x00] start).peek (place 0xFFFF [0x10, 0x00] start).pc = 0x10 := by decide

-- inc b leaves CF; add hl, sp leaves ZF
theorem witness_FlagsChangeOnlyByTheirWriters : (∃ t, exec .incB start = .next t) ∧ writesCarry .incB = false ∧
    (∃ t, exec .addHlSp start = .next t) ∧ writesZero .addHlSp = false :=
  ⟨⟨_, rfl⟩, by decide, ⟨_, rfl⟩, by decide⟩

theorem witness_ControlStateChangesOnlyByItsWriters : (∃ t, exec .jpHl start = .next t) ∧ writesSp .jpHl = false ∧
    Instr.jpHl ≠ .di ∧ Instr.jpHl ≠ .ei ∧ Instr.jpHl ≠ .reti :=
  ⟨⟨_, rfl⟩, by decide, by decide, by decide, by decide⟩

theorem witness_RegistersChangeOnlyAsDestinations : (∃ t, exec .ldAAtHlInc start = .next t) ∧ R8.b ∉ dests .ldAAtHlInc :=
  ⟨⟨_, rfl⟩, by decide⟩

-- the bytes just below and just above the two a push at the wraparound writes; a store to a collaborator's BUS
theorem witness_MemoryChangesOnlyWhereStored : (∃ t, exec .pushAf entering = .next t) ∧ entering.accessors = .plainRam ∧
    (0xFFFE : Word) ∉ stores .pushAf entering ∧ (0x0001 : Word) ∉ stores .pushAf entering ∧
    (∃ t, exec .pushAf collaborating = .next t) ∧ collaborating.accessors = .collaborator 7 :=
  ⟨⟨_, rfl⟩, by decide, by decide, by decide, ⟨_, rfl⟩, rfl⟩

theorem witness_AtMostTwoDataAccesses : ∃ t, exec .incAtHl start = .next t := ⟨_, rfl⟩

theorem witness_FlagsAreReadOnlyByTheReaders : readsFlags .addAB = false ∧ readsFlags .popAf = false ∧ readsFlags .cpAA = false := by
  decide

-- both bounds of the parameter, and the lowest budget of the last clause
theorem witness_CostsAreOneToSix :
    (∃ t, exec .retNz { start with config := { retCcTakenCost := 6 }, cycles := -2 ^ 31 + 6 } = .next t) ∧
    ({ retCcTakenCost := 6 } : Config).wellFormed = true ∧ ({ retCcTakenCost := 1 } : Config).wellFormed = true :=
  ⟨⟨_, rfl⟩, by decide, by decide⟩

-- the budget 0; then, at a budget of 1, a fault, and steps that end Halted, Stopped and Ok
theorem witness_RunFollowsTheLoop : start.config.wellFormed = true ∧ (0 : Int) ≤ 0 ∧ (0 : Int) < 1 ∧
    (∃ f, stepAt 0x0100 1 (place 0x0100 [0xDD] start) = .fault f) ∧
    after State.outcome { place 0x0100 [0x76] start with cycles := 1 } = some .halted ∧
    after State.outcome { place 0x0100 [0x10, 0x00] start with cycles := 1 } = some .stopped ∧
    after State.outcome { place 0x0100 [0x00] start with cycles := 1 } = some .ok :=
  ⟨by decide, by decide, by decide, ⟨.unimplementedOpcode 0xDD false 0x0100, rfl⟩, by decide, by decide, by decide⟩

theorem witness_RunOverrunIsAtMostFive : start.config.wellFormed = true ∧ (0 : Int) < 1 := by decide

theorem witness_SafetyIsDecidedByTheOpcodeByte : nextStepSafe (place 0xFFFF [0xD2] start) = true ∧
    nextStepSafe (place 0xFFFF [0xD3] start) = false := by decide

theorem witness_BusSeesTheRecordedAccesses : (∃ t, exec .incAtHl start = .next t) ∧ ∃ t, exec .incAtHl collaborating = .next t :=
  ⟨⟨_, rfl⟩, ⟨_, rfl⟩⟩

theorem witness_DefaultBusIsPlainRam : storing.accessors = .plainRam ∧ storing.mem.wf = true ∧ (0x0000 : Word) ≠ 0xFFFF := by decide

/-! ## A collaborator's BUS (20_memory.md R58; log 6): it sees the accesses of the rule, in the order of R59 and D21 -/

-- R112: one read at HL, and A is the byte that read returns
theorem test_collaborator_load : exec .ldAAtHl { collaborating with h := 0x12, l := 0x34 } =
    .next { collaborating with
      h := 0x12, l := 0x34, a := (Config.collaboratorRead 7 0x1234).1, pc := 1, cycles := 8,
      accessors := .collaborator (Config.collaboratorRead 7 0x1234).2, bus := [.read 0x1234] } := rfl

-- R130: the low byte is written first; no cell of the plain RAM changes
theorem test_collaborator_push : exec .pushBc { collaborating with sp := 0xD000, b := 0x12, c := 0x34 } =
    .next { collaborating with
      sp := 0xCFFE, b := 0x12, c := 0x34, pc := 1, cycles := 6,
      accessors := .collaborator (Config.collaboratorWrite (Config.collaboratorWrite 7 0xCFFE 0x34) 0xCFFF 0x12),
      bus := [.write 0xCFFE 0x34, .write 0xCFFF 0x12] } := rfl

-- a placed instruction is fetched from plain RAM, whatever the BUS was (log 8)
theorem test_fetch_word_collaborator : after (fun t => (t.a, t.pc)) (collaborating.withFetchWord 16 0x053E) = some (0x05, 2) := by
  decide

end Sys2Proof.Tests
end

section
/-! PROOFS. What a shared operation may write and read, said of its `Shape`: the flags, SP, IME and the 8-bit registers, each tied to
the spec's own list (10_state.md R21, R25, R29, R30, R31), which the statements read off the opcode. -/

namespace Sys2Proof

/-- The accumulator operations that take CF in (41_alu8.md R159, R165). -/
def AluOp.readsCarry : AluOp → Bool
  | .adc | .sbc => true
  | _ => false

/-- The rotates through CF (45_rotate_cb.md R264). -/
def ShiftOp.readsCarry : ShiftOp → Bool
  | .rl | .rr => true
  | _ => false

/-- The two registers of a pair (10_state.md R23). -/
def Pair.halves : Pair → List R8
  | .bc => [.b, .c]
  | .de => [.d, .e]
  | .hl => [.h, .l]

/-- The 8-bit registers of a 16-bit register (30_encoding.md R83): none for SP. -/
def R16.halves : R16 → List R8
  | .bc => [.b, .c]
  | .de => [.d, .e]
  | .hl => [.h, .l]
  | .sp => []

end Sys2Proof

namespace Sys2Proof.Machine

open Sys2Proof.Stmt

namespace Shape

/-- The operations that write ZF (10_state.md R29). -/
def writesZf : Shape → Bool
  | .incR8 _ | .decR8 _ | .incMem | .decMem | .aluR8 _ _ | .aluMem _ | .aluImm _ _ | .rotateAcc _ | .shiftR8 _ _
  | .shiftMem _ | .bitR8 _ _ | .bitMem _ | .addSpImm _ | .ldHlSpImm _ | .popAcc => true
  | _ => false

/-- The operations that write CF (10_state.md R29). -/
def writesCf : Shape → Bool
  | .aluR8 _ _ | .aluMem _ | .aluImm _ _ | .rotateAcc _ | .shiftR8 _ _ | .shiftMem _ | .addHlR16 _ | .addSpImm _
  | .ldHlSpImm _ | .popAcc | .setCarry | .complementCarry => true
  | _ => false

/-- The operations that read ZF or CF (10_state.md R30). -/
def readsFlags : Shape → Bool
  | .aluR8 op _ | .aluMem op | .aluImm op _ => op.readsCarry
  | .rotateAcc op | .shiftR8 op _ | .shiftMem op => op.readsCarry
  | .jumpRelativeIf _ _ | .jumpAbsoluteIf _ _ | .callAddrIf _ _ | .returnIf _ | .complementCarry | .pushAcc => true
  | _ => false

/-- The operations that write SP (10_state.md R25). -/
def writesSp : Shape → Bool
  | .ldR16N16 ss _ | .incR16 ss | .decR16 ss => ss == .sp
  | .ldStackHl | .addSpImm _ | .pushPair _ | .pushAcc | .popPair _ | .popAcc | .callAddr _ | .callAddrIf _ _
  | .returnAlways | .returnIf _ | .returnEnabling | .restart _ => true
  | _ => false

/-- The operations that write IME (10_state.md R31). -/
def writesIme : Shape → Bool
  | .setInterruptEnable _ | .returnEnabling => true
  | _ => false

/-- The 8-bit registers an operation may write (10_state.md R21). -/
def dests : Shape → List R8
  | .ldR8R8 dst _ | .ldR8N8 dst _ | .ldR8AtHl dst => [dst]
  | .incR8 r | .decR8 r | .shiftR8 _ r | .resR8 _ r | .setR8Bit _ r => [r]
  | .ldR16N16 ss _ | .incR16 ss | .decR16 ss => ss.halves
  | .popPair q => q.halves
  | .addHlR16 _ | .ldHlSpImm _ | .ldAtHlStepAcc _ => [.h, .l]
  | .ldAccAtHlStep _ => [.a, .h, .l]
  | .ldAccAtPair _ | .ldAccAtAddr _ | .ldAccAtPage _ | .ldAccAtPageC | .popAcc | .rotateAcc _ | .complementAcc => [.a]
  | .aluR8 op _ | .aluMem op | .aluImm op _ => if op = .cp then [] else [.a]
  | _ => []

end Shape

/-- The opcode byte, read off the encoding. Rewriting with it first takes the operand out of a test on the opcode, so that the
test evaluates. -/
theorem b0_of_encode {i : Instr} {x : Byte} {rest : List Byte} (h : encode i = x :: rest) : b0 i = x.toNat := by
  simp [b0, h]

theorem writesZf_shapeOf (i : Instr) : (shapeOf i).writesZf = writesZero i := by
  unfold writesZero
  cases i <;> rw [b0_of_encode rfl] <;> rfl

theorem writesCf_shapeOf (i : Instr) : (shapeOf i).writesCf = writesCarry i := by
  unfold writesCarry
  cases i <;> rw [b0_of_encode rfl] <;> rfl

theorem readsFlags_shapeOf (i : Instr) : (shapeOf i).readsFlags = readsFlags i := by
  unfold readsFlags
  cases i <;> rw [b0_of_encode rfl] <;> rfl

theorem writesSp_shapeOf (i : Instr) : (shapeOf i).writesSp = writesSp i := by
  unfold writesSp
  cases i <;> rw [b0_of_encode rfl] <;> rfl

theorem dests_shapeOf (i : Instr) : (shapeOf i).dests = dests i := by
  unfold dests
  cases i <;> rw [b0_of_encode rfl] <;> rfl

theorem writesIme_shapeOf (i : Instr) : (shapeOf i).writesIme = decide (i = .di ∨ i = .ei ∨ i = .reti) := by
  cases i <;> rfl

end Sys2Proof.Machine
end

section
/-! PROOFS. What an operation leaves unchanged: one frame per `Shape`, from which the frame of every instruction follows. -/

namespace Sys2Proof.Machine

/-- P holds of the next state, if the result is one. -/
def Ensures (P : State → Prop) (x : Result) : Prop := ∀ t, x = .next t → P t

theorem Ensures.next {P : State → Prop} {t : State} (h : P t) : Ensures P (.next t) := by
  rintro _ ⟨⟩
  exact h

theorem Ensures.fault {P : State → Prop} {f : Fault} : Ensures P (.fault f) := nofun

theorem Ensures.ite {P : State → Prop} {c : Prop} [Decidable c] {x y : Result} (hx : Ensures P x) (hy : Ensures P y) :
    Ensures P (if c then x else y) := by
  split <;> assumption

/-- The seven 8-bit registers (10_state.md R21). -/
def State.regs (s : State) : Byte × Byte × Byte × Byte × Byte × Byte × Byte := (s.a, s.b, s.c, s.d, s.e, s.h, s.l)

theorem State.getR8_congr {s t : State} (h : t.regs = s.regs) (r : R8) : t.getR8 r = s.getR8 r := by
  simp only [State.regs, Prod.mk.injEq] at h
  cases r <;> simp [State.getR8, h]

theorem State.getR8_setPair_other (s : State) {q : Pair} {r : R8} (v : Word) (h : r ∉ q.halves) :
    (s.setPair q v).getR8 r = s.getR8 r := by
  revert h
  cases q <;> cases r <;> simp [Pair.halves, State.setPair, State.getR8]

/-- The frame of an operation whose registers are those of one register write. -/
theorem State.getR8_of_setR8 {s t : State} (dst : R8) {r : R8} {v : Byte} (h : t.regs = (s.setR8 dst v).regs)
    (hr : r ∉ [dst]) : t.getR8 r = s.getR8 r :=
  (State.getR8_congr h r).trans (State.getR8_setR8_other s v (List.ne_of_not_mem_cons hr))

/-- The frame of an operation whose registers are those of one pair write. -/
theorem State.getR8_of_setPair {s t : State} (q : Pair) {r : R8} {v : Word} (h : t.regs = (s.setPair q v).regs)
    (hr : r ∉ q.halves) : t.getR8 r = s.getR8 r :=
  (State.getR8_congr h r).trans (State.getR8_setPair_other s v hr)

/-- What an operation leaves unchanged between the state before it and the state after it. A field that a proof does not name
holds by definition: the operation does not touch it. -/
structure Shape.Frame (p : Shape) (s t : State) : Prop where
  zf : p.writesZf = false → t.zf = s.zf := by exact fun _ => rfl
  cf : p.writesCf = false → t.cf = s.cf := by exact fun _ => rfl
  sp : p.writesSp = false → t.sp = s.sp := by exact fun _ => rfl
  ime : p.writesIme = false → t.ime = s.ime := by exact fun _ => rfl
  config : t.config = s.config := by rfl
  dispatch : t.dispatch = .primaryFetch := by rfl
  regs : ∀ r ∉ p.dests, t.getR8 r = s.getR8 r := by exact fun r _ => State.getR8_congr rfl r

/-- Every operation keeps its frame. The cases are grouped by what the operations write: `nofun` marks a flag, SP or IME that is
written, a `regs` entry the registers that are. -/
theorem Shape.run_frame (p : Shape) (s : State) : Ensures (p.Frame s) (p.run s) := by
  cases s
  cases p with
  | raiseUnimplemented => exact .fault
  | noOperation | stopCore | haltCore | jumpRelative | jumpAbsolute | jumpToHl
  | ldAtPairAcc | ldAtAddrSp | ldAtHlImm | ldAtHlR8 | ldAtPageAcc | ldAtPageCAcc | ldAtAddrAcc | resMem | setMem =>
    exact .next {}
  | jumpRelativeIf | jumpAbsoluteIf => exact .ite (.next {}) (.next {})
  | callAddrIf | returnIf => exact .ite (.next { sp := nofun }) (.next {})
  | pushPair | pushAcc | callAddr | restart | returnAlways | ldStackHl => exact .next { sp := nofun }
  | returnEnabling => exact .next { sp := nofun, ime := nofun }
  | setInterruptEnable => exact .next { ime := nofun }
  | incMem | decMem | bitR8 | bitMem => exact .next { zf := nofun }
  | setCarry | complementCarry => exact .next { cf := nofun }
  | shiftMem => exact .next { zf := nofun, cf := nofun }
  | addSpImm => exact .next { zf := nofun, cf := nofun, sp := nofun }
  | ldR8R8 dst | ldR8N8 dst | ldR8AtHl dst | resR8 _ dst | setR8Bit _ dst =>
    cases dst <;> exact .next { regs := fun _ => State.getR8_of_setR8 _ rfl }
  | incR8 r | decR8 r => cases r <;> exact .next { zf := nofun, regs := fun _ => State.getR8_of_setR8 _ rfl }
  | shiftR8 _ r => cases r <;> exact .next { zf := nofun, cf := nofun, regs := fun _ => State.getR8_of_setR8 _ rfl }
  | ldAccAtPair | ldAccAtAddr | ldAccAtPage | ldAccAtPageC | complementAcc =>
    exact .next { regs := fun _ => State.getR8_of_setR8 .a rfl }
  | rotateAcc => exact .next { zf := nofun, cf := nofun, regs := fun _ => State.getR8_of_setR8 .a rfl }
  | popAcc => exact .next { zf := nofun, cf := nofun, sp := nofun, regs := fun _ => State.getR8_of_setR8 .a rfl }
  | aluR8 op | aluMem op | aluImm op =>
    cases op with
    | cp => exact .next { zf := nofun, cf := nofun }
    | add | adc | sub | sbc | and | xor | or =>
      exact .next { zf := nofun, cf := nofun, regs := fun _ => State.getR8_of_setR8 .a rfl }
  | ldR16N16 ss | incR16 ss | decR16 ss =>
    cases ss with
    | sp => exact .next { sp := nofun }
    | bc => exact .next { regs := fun _ => State.getR8_of_setPair .bc rfl }
    | de => exact .next { regs := fun _ => State.getR8_of_setPair .de rfl }
    | hl => exact .next { regs := fun _ => State.getR8_of_setPair .hl rfl }
  | popPair q =>
    cases q with
    | bc => exact .next { sp := nofun, regs := fun _ => State.getR8_of_setPair .bc rfl }
    | de => exact .next { sp := nofun, regs := fun _ => State.getR8_of_setPair .de rfl }
    | hl => exact .next { sp := nofun, regs := fun _ => State.getR8_of_setPair .hl rfl }
  | addHlR16 => exact .next { cf := nofun, regs := fun _ => State.getR8_of_setPair .hl rfl }
  | ldHlSpImm => exact .next { zf := nofun, cf := nofun, regs := fun _ => State.getR8_of_setPair .hl rfl }
  | ldAtHlStepAcc => exact .next { regs := fun _ => State.getR8_of_setPair .hl rfl }
  | ldAccAtHlStep =>
    exact .next {
      regs := fun r h => match r with
        | .b | .c | .d | .e => rfl
        | .a | .h | .l => absurd (by simp [dests]) h }

theorem exec_frame {i : Instr} {s t : State} (h : exec i s = .next t) : (shapeOf i).Frame s t :=
  Shape.run_frame _ s t (exec_eq_shape i s ▸ h)

end Sys2Proof.Machine
end

section
/-! PROOFS. Which operations see IME, ZF and CF: an operation run on a state with another IME, or with other flags, gives the
same result, but for the flag itself where the operation does not write it. -/

namespace Sys2Proof.Machine

/-- The result with its next state, if it has one, changed. -/
def mapNext (f : State → State) : Result → Result
  | .next t => .next (f t)
  | .fault r => .fault r
  | .refused r => .refused r

theorem ite_eq_mapNext {c : Prop} [Decidable c] {f : State → State} {x y x' y' : Result} (hx : x' = mapNext f x)
    (hy : y' = mapNext f y) : (if c then x' else y') = mapNext f (if c then x else y) := by
  split <;> assumption

/-- The state with another IME. -/
def State.withIme (s : State) (v : Bool) : State := { s with ime := v }

/-- The state with other flags. -/
def State.withFlags (s : State) (z c : Bool) : State := { s with zf := z, cf := c }

/-- The state after an operation, had it started with IME = v: a written IME is the same, any other is v. -/
def Shape.keepIme (p : Shape) (v : Bool) (t : State) : State := t.withIme (if p.writesIme then t.ime else v)

/-- The state after an operation, had it started with the flags z and c: a written flag is the same, any other is as it was. -/
def Shape.keepFlags (p : Shape) (z c : Bool) (t : State) : State :=
  t.withFlags (if p.writesZf then t.zf else z) (if p.writesCf then t.cf else c)

/-- No operation reads IME (10_state.md R31). -/
theorem Shape.run_withIme (p : Shape) (s : State) (v : Bool) : p.run (s.withIme v) = mapNext (p.keepIme v) (p.run s) := by
  cases s
  cases p with
  | jumpRelativeIf | jumpAbsoluteIf | callAddrIf | returnIf => exact ite_eq_mapNext rfl rfl
  | ldR8R8 r | ldR8N8 r | ldR8AtHl r | incR8 r | decR8 r | shiftR8 _ r | resR8 _ r | setR8Bit _ r => cases r <;> rfl
  | ldR16N16 ss | incR16 ss | decR16 ss => cases ss <;> rfl
  | popPair q => cases q <;> rfl
  | _ => rfl

/-- Only the flag readers read ZF or CF (10_state.md R30); of the operations that are given CF, adc, sbc, rl and rr alone use
it. -/
theorem Shape.run_withFlags {p : Shape} (h : p.readsFlags = false) (s : State) (z c : Bool) :
    p.run (s.withFlags z c) = mapNext (p.keepFlags z c) (p.run s) := by
  cases s
  cases p with
  | jumpRelativeIf | jumpAbsoluteIf | callAddrIf | returnIf | complementCarry | pushAcc => nomatch h
  | ldR8R8 r | ldR8N8 r | ldR8AtHl r | incR8 r | decR8 r | resR8 _ r | setR8Bit _ r => cases r <;> rfl
  | ldR16N16 ss | incR16 ss | decR16 ss => cases ss <;> rfl
  | popPair q => cases q <;> rfl
  | aluR8 op | aluMem op | aluImm op =>
    cases op with
    | adc | sbc => nomatch h
    | add | sub | and | xor | or | cp => rfl
  | rotateAcc op | shiftMem op =>
    cases op with
    | rl | rr => nomatch h
    | rlc | rrc | sla | sra | swap | srl => rfl
  | shiftR8 op r =>
    cases op with
    | rl | rr => nomatch h
    | rlc | rrc | sla | sra | swap | srl => cases r <;> rfl
  | _ => rfl

theorem exec_withIme (i : Instr) (s : State) (v : Bool) :
    exec i (s.withIme v) = mapNext ((shapeOf i).keepIme v) (exec i s) := by
  rw [exec_eq_shape, exec_eq_shape, Shape.run_withIme]

theorem exec_withFlags {i : Instr} (h : Stmt.readsFlags i = false) (s : State) (z c : Bool) :
    exec i (s.withFlags z c) = mapNext ((shapeOf i).keepFlags z c) (exec i s) := by
  rw [exec_eq_shape, exec_eq_shape, Shape.run_withFlags ((readsFlags_shapeOf i).trans h)]

/-- The fetch neither reads nor writes IME. -/
theorem State.fetch_withIme (s : State) (v : Bool) : (s.withIme v).fetch = (s.fetch.1, s.fetch.2.withIme v) := by
  simp only [State.fetch, State.withIme, State.readByte, State.peek]
  cases primary (s.accessors.byteAt s.mem s.pc) <;> rfl

theorem State.fetch_snd_ime (s : State) : s.fetch.2.ime = s.ime := by
  rw [State.fetch_snd]

theorem step_withIme (s : State) (v : Bool) :
    step (s.withIme v) = mapNext ((shapeOf s.beginStep.fetch.1).keepIme v) (step s) := by
  have hbegin : (s.withIme v).beginStep = s.beginStep.withIme v := rfl
  rw [step, hbegin, State.fetch_withIme, exec_withIme, step]

/-- A step whose instruction does not write IME leaves it. -/
theorem step_ime {s t : State} (h : step s = .next t) (hw : (shapeOf s.beginStep.fetch.1).writesIme = false) :
    t.ime = s.ime :=
  ((exec_frame h).ime hw).trans (State.fetch_snd_ime s.beginStep)

/-- A value that is x if written and `new` if not, where x is `old` if not written. -/
theorem written_or_kept {w x old new : Bool} (h : w = false → x = old) :
    (if w then x else new) = x ∨ (x = old ∧ (if w then x else new) = new) := by
  cases w with
  | true => exact .inl rfl
  | false => exact .inr ⟨h rfl, rfl⟩

end Sys2Proof.Machine
end

section
/-! PROOFS. The operands and the caller's accessors in the statements' own words. -/

namespace Sys2Proof.Machine

open Sys2Proof.Stmt

/-- `hi ++ lo` is the number `hi*256 + lo` (00_scope.md R9). -/
theorem joinBytes_eq_word (x y : Byte) : joinBytes x y = word x y := by
  apply BitVec.eq_of_toNat_eq
  rw [joinBytes_toNat, word, BitVec.toNat_ofNat, Nat.mod_eq_of_lt (by omega)]

theorem loByte_eq_lo (v : Word) : loByte v = lo v := by
  apply BitVec.eq_of_toNat_eq
  simp [loByte, lo]

theorem hiByte_eq_hi (v : Word) : hiByte v = hi v := by
  apply BitVec.eq_of_toNat_eq
  simp [hiByte, hi, Nat.shiftRight_eq_div_pow]

theorem State.getPair_eq_pair (s : State) (q : Pair) : s.getPair q = pair s q := by
  cases q <;> exact joinBytes_eq_word _ _

theorem State.setPair_eq_putPair (s : State) (q : Pair) (v : Word) : s.setPair q v = putPair s q v := by
  cases q <;> simp only [State.setPair, putPair, loByte_eq_lo, hiByte_eq_hi]

theorem State.getR16_eq_reg16 (s : State) (ss : R16) : s.getR16 ss = reg16 s ss := by
  cases ss with
  | sp => rfl
  | bc | de | hl => exact joinBytes_eq_word _ _

theorem State.setR16_eq_putReg16 (s : State) (ss : R16) (v : Word) : s.setR16 ss v = putReg16 s ss v := by
  cases ss with
  | sp => rfl
  | bc => exact s.setPair_eq_putPair .bc v
  | de => exact s.setPair_eq_putPair .de v
  | hl => exact s.setPair_eq_putPair .hl v

/-- A read the caller makes is one access of BUS that the record does not hold. -/
theorem State.afterRead_eq_callerDid (s : State) (addr : Word) : s.afterRead addr = callerDid s [.read addr] := rfl

/-- A write the caller makes is one access of BUS that the record does not hold. -/
theorem State.store_eq_callerDid (s : State) (addr : Word) (v : Byte) : s.store addr v = callerDid s [.write addr v] := rfl

theorem State.collaboratorActs_plainRam {s : State} (h : s.accessors = .plainRam) (k : Nat) : s.collaboratorActs k = s := by
  cases s
  cases h
  rfl

theorem State.collaboratorActs_collaborator {s : State} {j : Nat} (h : s.accessors = .collaborator j) (k : Nat) :
    s.collaboratorActs k = { s with accessors := .collaborator k } := by
  rw [State.collaboratorActs, h]

end Sys2Proof.Machine
end

section
/-! PROOFS. The statements about the state (10_state.md). -/

namespace Sys2Proof.Machine

open Sys2Proof.Stmt

/-- Settles O51: a step commutes with a change of IME, and leaves IME where its instruction does not write it. -/
theorem interruptEnableIsNeverRead : Obligations.InterruptEnableIsNeverRead := by
  intro s v
  rw [show step { s with ime := v } = _ from step_withIme s v]
  cases hstep : step s with
  | next t => exact ⟨rfl, written_or_kept (step_ime hstep)⟩
  | fault | refused => rfl

/-- Settles O52: an instruction that is no flag reader commutes with a change of the flags, and leaves those it does not
write. -/
theorem flagsAreReadOnlyByTheReaders : Obligations.FlagsAreReadOnlyByTheReaders := by
  intro i s z c hreads
  rw [show exec i { s with zf := z, cf := c } = _ from exec_withFlags hreads s z c]
  cases hexec : exec i s with
  | next t => exact ⟨rfl, written_or_kept (exec_frame hexec).zf, written_or_kept (exec_frame hexec).cf⟩
  | fault | refused => rfl

/-- Settles O46, by the frame of the operation the instruction runs. -/
theorem flagsChangeOnlyByTheirWriters : Obligations.FlagsChangeOnlyByTheirWriters := by
  intro i s t h
  rw [← writesZf_shapeOf, ← writesCf_shapeOf]
  exact ⟨(exec_frame h).zf, (exec_frame h).cf⟩

/-- Settles O47, by the frame of the operation the instruction runs. -/
theorem controlStateChangesOnlyByItsWriters : Obligations.ControlStateChangesOnlyByItsWriters := by
  intro i s t h
  have frame := exec_frame h
  rw [← writesSp_shapeOf]
  refine ⟨frame.sp, fun hdi hei hreti => frame.ime ?_, frame.config, frame.dispatch⟩
  simp [writesIme_shapeOf, hdi, hei, hreti]

/-- Settles O48, by the frame of the operation the instruction runs. -/
theorem registersChangeOnlyAsDestinations : Obligations.RegistersChangeOnlyAsDestinations := by
  intro i s t h
  rw [← dests_shapeOf]
  exact (exec_frame h).regs

/-- Settles O11: the memory of State.reset lists nothing. -/
theorem resetMeetsInvariant : Obligations.ResetMeetsInvariant := ⟨Memory.wf_nil, rfl⟩

/-- Settles O14: the single registers by definition, the pairs because joining two bytes is `high*256 + low`. -/
theorem registerCodesNameTheRegisters : Obligations.RegisterCodesNameTheRegisters := by
  intro s v w q ss
  refine ⟨⟨rfl, rfl, rfl, rfl, rfl, rfl, rfl⟩, ⟨rfl, rfl, rfl, rfl, rfl, rfl, rfl⟩, ?_⟩
  exact ⟨s.getPair_eq_pair q, s.setPair_eq_putPair q w, s.getR16_eq_reg16 ss, s.setR16_eq_putReg16 ss w⟩

/-- Settles O16: the accessors are their own definitions; the memory primitives by the laws of a read after a store. -/
theorem accessorsWriteTheNamedItem : Obligations.AccessorsWriteTheNamedItem := by
  intro s w v n addr x
  refine ⟨rfl, rfl, rfl, rfl, rfl, rfl, congrArg (Prod.mk _) (s.afterRead_eq_callerDid addr), s.store_eq_callerDid addr x,
    fun hram => ⟨State.peek_store_same addr x hram, fun a => State.peek_store_other x hram, ?_⟩, ?_⟩
  · exact State.collaboratorActs_plainRam hram
  · exact fun j k hbus => State.collaboratorActs_collaborator hbus k

end Sys2Proof.Machine
end

section
/-! PROOFS. What a list of accesses does to memory, BUS and the record (20_memory.md R50, R51, R58): a law of each single access,
carried along the list. -/

namespace Sys2Proof.Machine

open Sys2Proof.Stmt

/-- A relation to the start that every access keeps holds after all of them. -/
theorem saw_induction {P : State → Prop} {s : State} {as : List Access} (start : P s)
    (keep : ∀ t, P t → ∀ x ∈ as, P (saw1 t x)) : P (saw s as) :=
  List.foldlRecOn as saw1 start keep

theorem saw_bus (s : State) (as : List Access) : (saw s as).bus = s.bus ++ as := by
  induction as generalizing s with
  | nil => exact (List.append_nil _).symm
  | cons x as ih => exact (ih (saw1 s x)).trans (List.append_assoc s.bus [x] as)

/-- No list of accesses exchanges the default BUS for a collaborator's, or the other way. -/
theorem saw_accessors_eq_plainRam {s : State} {as : List Access} :
    (saw s as).accessors = .plainRam ↔ s.accessors = .plainRam := by
  refine saw_induction (P := fun t => t.accessors = .plainRam ↔ s.accessors = .plainRam) Iff.rfl fun t ht x _ => ?_
  cases x with
  | read a => exact Bus.afterRead_eq_plainRam.trans ht
  | write a v => exact Bus.afterWrite_eq_plainRam.trans ht

theorem saw_mem_wf {s : State} (as : List Access) (h : s.mem.wf = true) : (saw s as).mem.wf = true := by
  refine saw_induction (P := fun t => t.mem.wf = true) h fun t ht x _ => ?_
  cases x with
  | read a => exact ht
  | write a v => exact State.wf_writeByte a v ht

/-- With a collaborator's BUS the plain RAM keeps every cell. -/
theorem saw_mem_collaborator {s : State} {k : Nat} (as : List Access) (h : s.accessors = .collaborator k) :
    (saw s as).mem = s.mem := by
  refine (saw_induction (P := fun t => (∃ j, t.accessors = .collaborator j) ∧ t.mem = s.mem) ⟨⟨k, h⟩, rfl⟩ ?_).2
  rintro t ⟨⟨j, hj⟩, hmem⟩ x -
  cases x with
  | read a => exact ⟨⟨_, congrArg (Bus.afterRead · a) hj⟩, hmem⟩
  | write a v =>
    exact ⟨⟨_, congrArg (Bus.afterWrite · a v) hj⟩, (congrArg (Bus.cellsAfterWrite · t.mem a v) hj).trans hmem⟩

/-- The frame of a write of any BUS: every other cell of the plain RAM is as before. -/
theorem Bus.read_cellsAfterWrite_other (b : Bus) (m : Memory) {a x : Word} (v : Byte) (h : x ≠ a) :
    (b.cellsAfterWrite m a v).read x.toNat = m.read x.toNat := by
  cases b with
  | plainRam => exact Memory.read_write_other (fun e => h (BitVec.eq_of_toNat_eq e)) m
  | collaborator k => rfl

/-- The address an access writes, if it writes. -/
def Access.written? : Access → Option Word
  | .read _ => none
  | .write a _ => some a

/-- The addresses that the accesses of a list write, in their order. -/
def Access.written (as : List Access) : List Word := as.filterMap written?

theorem Access.mem_written {as : List Access} {a : Word} {v : Byte} (h : .write a v ∈ as) : a ∈ written as :=
  List.mem_filterMap.mpr ⟨_, h, rfl⟩

/-- A cell that no access of the list writes is as before. -/
theorem saw_mem_read_other {s : State} {as : List Access} {a : Word} (h : a ∉ Access.written as) :
    (saw s as).mem.read a.toNat = s.mem.read a.toNat := by
  refine saw_induction (P := fun t => t.mem.read a.toNat = s.mem.read a.toNat) rfl fun t ht x hx => ?_
  cases x with
  | read b => exact ht
  | write b v =>
    have hne : a ≠ b := fun e => h (e ▸ Access.mem_written hx)
    exact (Bus.read_cellsAfterWrite_other t.accessors t.mem v hne).trans ht

end Sys2Proof.Machine
end

section
/-! PROOFS. The data accesses of an operation, one list per `Shape`: the operation moves memory, BUS and the record exactly as this
list does, it holds at most two accesses, reads before writes, and it writes the addresses of the statements' own list. -/

namespace Sys2Proof.Machine

open Sys2Proof.Stmt

/-- A word write: low byte first (20_memory.md R53). -/
def wordWrite (addr v : Word) : List Access := [.write addr (loByte v), .write (addr + 1) (hiByte v)]

/-- `Push16(v)` (40_loads.md R130). -/
def State.pushAccesses (s : State) (v : Word) : List Access := wordWrite (s.sp - 2) v

/-- `Pop16()` (40_loads.md R131). -/
def State.popAccesses (s : State) : List Access := [.read s.sp, .read (s.sp + 1)]

/-- A [hl] form that rewrites its operand: one read, then one write (20_memory.md R59). -/
def State.updateAccesses (s : State) (f : Byte → Byte) : List Access := [.read s.hl, .write s.hl (f (s.peek s.hl))]

/-- The data accesses an operation makes from a state, in order. -/
def Shape.accesses (p : Shape) (s : State) : List Access :=
  match p with
  | .ldR8AtHl _ | .aluMem _ | .bitMem _ | .ldAccAtHlStep _ => [.read s.hl]
  | .ldAccAtPair q => [.read (s.getPair q)]
  | .ldAccAtAddr n => [.read n]
  | .ldAccAtPage n => [.read (pageAddr n)]
  | .ldAccAtPageC => [.read (pageAddr s.c)]
  | .popPair _ | .popAcc | .returnAlways | .returnEnabling => s.popAccesses
  | .returnIf cc => if s.cond cc then s.popAccesses else []
  | .ldAtHlR8 r => [.write s.hl (s.getR8 r)]
  | .ldAtHlImm n => [.write s.hl n]
  | .ldAtHlStepAcc _ => [.write s.hl s.a]
  | .ldAtPairAcc q => [.write (s.getPair q) s.a]
  | .ldAtAddrAcc n => [.write n s.a]
  | .ldAtPageAcc n => [.write (pageAddr n) s.a]
  | .ldAtPageCAcc => [.write (pageAddr s.c) s.a]
  | .ldAtAddrSp n => wordWrite n s.sp
  | .pushPair q => s.pushAccesses (s.getPair q)
  | .pushAcc => s.pushAccesses (joinBytes s.a (flagByte s.zf s.cf))
  | .restart _ => s.pushAccesses (s.pc + 1)
  | .callAddr _ => s.pushAccesses (s.pc + 3)
  | .callAddrIf cc _ => if s.cond cc then s.pushAccesses (s.pc + 3) else []
  | .incMem => s.updateAccesses (· + 1)
  | .decMem => s.updateAccesses (· - 1)
  | .shiftMem op => s.updateAccesses fun v => (shift8 op v s.cf).1
  | .resMem n => s.updateAccesses (clearBit n)
  | .setMem n => s.updateAccesses (putBit n)
  | _ => []

/-- Memory, BUS and the record of t are what the accesses leave of those of s. For a single operation each field holds by
definition. -/
structure State.Made (s : State) (as : List Access) (t : State) : Prop where
  mem : t.mem = (saw s as).mem := by rfl
  accessors : t.accessors = (saw s as).accessors := by rfl
  bus : t.bus = (saw s as).bus := by rfl

/-- An operation that makes its accesses under a condition alone. -/
theorem Ensures.made_ite {c : Prop} [Decidable c] {s : State} {as : List Access} {x y : Result}
    (hx : Ensures (s.Made as) x) (hy : Ensures (s.Made []) y) :
    Ensures (s.Made (if c then as else [])) (if c then x else y) := by
  split <;> assumption

/-- Every operation moves memory, BUS and the record by its accesses alone. -/
theorem Shape.run_made (p : Shape) (s : State) : Ensures (s.Made (p.accesses s)) (p.run s) := by
  cases p with
  | raiseUnimplemented => exact .fault
  | jumpRelativeIf | jumpAbsoluteIf => exact .ite (.next {}) (.next {})
  | callAddrIf | returnIf => exact .made_ite (.next {}) (.next {})
  | ldR8R8 r | ldR8N8 r | ldR8AtHl r | incR8 r | decR8 r | shiftR8 _ r | resR8 _ r | setR8Bit _ r =>
    cases r <;> exact .next {}
  | ldR16N16 ss | incR16 ss | decR16 ss => cases ss <;> exact .next {}
  | popPair q => cases q <;> exact .next {}
  | _ => exact .next {}

theorem exec_made {i : Instr} {s t : State} (h : exec i s = .next t) : s.Made ((shapeOf i).accesses s) t :=
  Shape.run_made _ s t (exec_eq_shape i s ▸ h)

/-- At most two accesses, and none of them a read after a write (20_memory.md R57, R59). -/
def Access.FewReadsFirst (as : List Access) : Prop := as.length ≤ 2 ∧ ∀ x y v, as ≠ [.write x v, .read y]

theorem Access.fewReadsFirst_nil : FewReadsFirst [] := ⟨Nat.zero_le 2, nofun⟩

theorem Access.fewReadsFirst_single (x : Access) : FewReadsFirst [x] := ⟨by simp, by simp⟩

theorem Access.fewReadsFirst_read (a : Word) (x : Access) : FewReadsFirst [.read a, x] := ⟨by simp, by simp⟩

theorem Access.fewReadsFirst_wordWrite (addr v : Word) : FewReadsFirst (wordWrite addr v) :=
  ⟨by simp [wordWrite], by simp [wordWrite]⟩

theorem Access.fewReadsFirst_ite {c : Prop} [Decidable c] {as : List Access} (h : FewReadsFirst as) :
    FewReadsFirst (if c then as else []) := by
  split
  · exact h
  · exact fewReadsFirst_nil

/-- The cases are grouped by what the operations access: at most one byte, a read before another access, a word write. -/
theorem Shape.accesses_fewReadsFirst (p : Shape) (s : State) : Access.FewReadsFirst (p.accesses s) := by
  cases p with
  | ldR8AtHl | aluMem | bitMem | ldAccAtHlStep | ldAccAtPair | ldAccAtAddr | ldAccAtPage | ldAccAtPageC
  | ldAtHlR8 | ldAtHlImm | ldAtHlStepAcc | ldAtPairAcc | ldAtAddrAcc | ldAtPageAcc | ldAtPageCAcc =>
    exact Access.fewReadsFirst_single _
  | popPair | popAcc | returnAlways | returnEnabling | incMem | decMem | shiftMem | resMem | setMem =>
    exact Access.fewReadsFirst_read _ _
  | returnIf => exact Access.fewReadsFirst_ite (Access.fewReadsFirst_read _ _)
  | ldAtAddrSp | pushPair | pushAcc | restart | callAddr => exact Access.fewReadsFirst_wordWrite _ _
  | callAddrIf => exact Access.fewReadsFirst_ite (Access.fewReadsFirst_wordWrite _ _)
  | _ => exact Access.fewReadsFirst_nil

/-- The addresses an operation writes are those the statements list for its instruction. -/
theorem written_accesses_shapeOf (i : Instr) (s : State) : Access.written ((shapeOf i).accesses s) = stores i s := by
  cases i with
  | callNzN16 | callZN16 | callNcN16 | callCN16 => exact apply_ite Access.written _ _ _
  | retNz | retZ | retNc | retC => exact (apply_ite Access.written _ _ _).trans (ite_self [])
  | _ => rfl

/-- The fetch reads memory and writes no cell. -/
theorem State.fetch_snd_mem (s : State) : s.fetch.2.mem = s.mem := by
  rw [State.fetch_snd]

end Sys2Proof.Machine
end

section
/-! PROOFS. The statements about memory (20_memory.md). -/

namespace Sys2Proof.Machine

open Sys2Proof.Stmt

/-- Settles O10: the fetch keeps the cells, an operation writes them by its accesses alone and ends in Primary-Fetch. -/
theorem stepKeepsInvariant : Obligations.StepKeepsInvariant := by
  rintro s t ⟨hwf, -⟩ hstep
  have hfetched : s.beginStep.fetch.2.mem.wf = true := by rwa [State.fetch_snd_mem]
  exact ⟨(exec_made hstep).mem ▸ saw_mem_wf _ hfetched, (exec_frame hstep).dispatch⟩

/-- Settles O49: the instruction's accesses write the listed addresses alone. -/
theorem memoryChangesOnlyWhereStored : Obligations.MemoryChangesOnlyWhereStored := by
  intro i s t h
  obtain ⟨hmem, haccessors, -⟩ := exec_made h
  refine ⟨fun a ha => ?_, fun k hk => hmem.trans (saw_mem_collaborator _ hk)⟩
  have hcell : t.mem.read a.toNat = s.mem.read a.toNat := by
    rw [hmem, saw_mem_read_other (written_accesses_shapeOf i s ▸ ha)]
  refine ⟨fun hram => ?_, hcell⟩
  have hram' : t.accessors = .plainRam := haccessors.trans (saw_accessors_eq_plainRam.mpr hram)
  rw [State.peek_plainRam hram', State.peek_plainRam hram, hcell]

/-- Settles O50: the record grows by the instruction's accesses. -/
theorem atMostTwoDataAccesses : Obligations.AtMostTwoDataAccesses := by
  intro i s t h
  exact ⟨(shapeOf i).accesses s, (exec_made h).bus.trans (saw_bus s _), Shape.accesses_fewReadsFirst _ s⟩

/-- Settles O57: the list is that of the instruction's accesses. -/
theorem busSeesTheRecordedAccesses : Obligations.BusSeesTheRecordedAccesses := by
  intro i s t h
  obtain ⟨hmem, haccessors, hbus⟩ := exec_made h
  exact ⟨(shapeOf i).accesses s, hmem, haccessors, hbus.trans (saw_bus s _), haccessors ▸ saw_accessors_eq_plainRam.symm⟩

/-- Settles O58, by the laws of a read after a write; the repeated write is split at the address written. -/
theorem defaultBusIsPlainRam : Obligations.DefaultBusIsPlainRam := by
  intro s addr v hram
  have hram' : (s.writeByte addr v).accessors = .plainRam := by simpa using hram
  refine ⟨?_, ?_, State.peek_writeByte_same addr v hram, fun x => State.peek_writeByte_other v hram, fun hwf x => ?_⟩
  · simp [State.readByte, hram]
  · exact State.peek_congr (s := s) (t := (s.readByte addr).2) rfl (by simp [hram]) addr
  · by_cases hx : x = addr
    · rw [hx, State.peek_writeByte_same addr v hram' (State.wf_writeByte addr v hwf),
        State.peek_writeByte_same addr v hram hwf]
    · exact State.peek_writeByte_other v hram' hx

/-- Settles O13: the word operations are two byte accesses each, and the halves of a word are arithmetic on
`high*256 + low`. -/
theorem wordAccessesAreTwoBytes : Obligations.WordAccessesAreTwoBytes := by
  refine ⟨fun s addr => ?_, fun s addr v => ?_, rfl⟩
  · exact congrArg (·, (s.readWord addr).2) (joinBytes_eq_word _ _)
  · rw [State.writeWord, loByte_eq_lo, hiByte_eq_hi]
    rfl

end Sys2Proof.Machine
end

section
/-! PROOFS. The decoder and the encoder are inverse to each other (30_encoding.md R80, R97): every instruction stands in
the table, and the encoding of what three bytes name is as many of them as the first one asks for. -/

namespace Sys2Proof

open Sys2Proof.Machine

theorem decode_of_length_le {b0 : Byte} {rest : List Byte} (h : lengthOf b0 ≤ rest.length + 1) :
    decode (b0 :: rest) = .ok (decode3 b0 (rest.getD 0 0) (rest.getD 1 0), (b0 :: rest).drop (lengthOf b0)) :=
  if_neg (Nat.not_lt.mpr h)

theorem decode_of_length_lt {b0 : Byte} {rest : List Byte} (h : rest.length + 1 < lengthOf b0) :
    decode (b0 :: rest) = .error (.tooFewBytes (lengthOf b0)) :=
  if_pos h

/-- A list that decodes has the bytes its first one asks for; they name the instruction, and what follows them is the rest. -/
theorem decode_eq_ok {bs rest : List Byte} {i : Instr} (h : decode bs = .ok (i, rest)) :
    ∃ b0 tail, bs = b0 :: tail ∧ lengthOf b0 ≤ tail.length + 1 ∧ i = decode3 b0 (tail.getD 0 0) (tail.getD 1 0) ∧
      rest = bs.drop (lengthOf b0) := by
  cases bs with
  | nil => nomatch h
  | cons b0 tail =>
    by_cases hlen : lengthOf b0 ≤ tail.length + 1
    · rw [decode_of_length_le hlen] at h
      cases h
      exact ⟨b0, tail, rfl, hlen, rfl, rfl⟩
    · rw [decode_of_length_lt (Nat.lt_of_not_le hlen)] at h
      nomatch h

/-- The encoder undoes the table: the bytes after those that the first one asks for name nothing. -/
theorem encode_decode3 (b0 b1 b2 : Byte) : encode (decode3 b0 b1 b2) = [b0, b1, b2].take (lengthOf b0) := by
  have hencodes := primary_encodes b0
  rw [decode3, lengthOf]
  cases hentry : primary b0 with rw [hentry] at hencodes
  | p1 i => exact hencodes
  | p2 k => exact hencodes b1
  | p3 k => exact (hencodes _).trans (by simp [Entry.length])
  | cb => exact hencodes ▸ encode_secondary b1

/-- The bytes written out: a table entry evaluates only under an opcode that has no operand beside it. -/
theorem decode3_encode_of {i : Instr} {b0 : Byte} {operands : List Byte} (hbytes : encode i = b0 :: operands)
    (hentry : decode3 b0 (operands.getD 0 0) (operands.getD 1 0) = i) :
    decode3 ((encode i).getD 0 0) ((encode i).getD 1 0) ((encode i).getD 2 0) = i := by
  rw [hbytes]
  exact hentry

/-- The table undoes the encoder: the entry under an instruction's own bytes names it, an operand word put together again. -/
theorem decode3_encode (i : Instr) :
    decode3 ((encode i).getD 0 0) ((encode i).getD 1 0) ((encode i).getD 2 0) = i := by
  cases i with
  | ldBcN16 n | ldDeN16 n | ldHlN16 n | ldSpN16 n | ldAtN16Sp n | ldAtN16A n | ldAAtN16 n
  | jpN16 n | jpNzN16 n | jpZN16 n | jpNcN16 n | jpCN16 n
  | callN16 n | callNzN16 n | callZN16 n | callNcN16 n | callCN16 n =>
    exact decode3_encode_of rfl (congrArg _ (joinBytes_halves n))
  | _ => exact decode3_encode_of rfl rfl

/-- Decoding the bytes of three that the first one asks for, whatever follows them. -/
theorem decode_take (b0 b1 b2 : Byte) (rest : List Byte) :
    decode ([b0, b1, b2].take (lengthOf b0) ++ rest) = .ok (decode3 b0 b1 b2, rest) := by
  rw [decode3, lengthOf]
  cases hentry : primary b0 with
  | p1 i => exact decode_p1 hentry rest
  | p2 k => exact decode_p2 hentry b1 rest
  | p3 k => exact decode_p3 hentry b1 b2 rest
  | cb => exact decode_secondary hentry b1 rest

theorem decode_encode (i : Instr) (rest : List Byte) : decode (encode i ++ rest) = .ok (i, rest) := by
  obtain ⟨b0, b1, b2, rfl⟩ : ∃ b0 b1 b2, decode3 b0 b1 b2 = i := ⟨_, _, _, decode3_encode i⟩
  rw [encode_decode3, decode_take]

theorem decode_of_encode {i : Instr} {bs : List Byte} (h : encode i = bs) : decode bs = .ok (i, []) := by
  rw [← h, ← decode_encode i [], List.append_nil]

/-- The bytes an instruction takes from a list are all there, so filling the list up changes none of them. -/
theorem take_getD {n : Nat} {b0 : Byte} {tail : List Byte} (hlist : n ≤ tail.length + 1) (hn : n ≤ 3) :
    [b0, tail.getD 0 0, tail.getD 1 0].take n = (b0 :: tail).take n := by
  match tail with
  | [] =>
    have hone : n ≤ 1 := hlist
    interval_cases n <;> rfl
  | [x] =>
    have htwo : n ≤ 2 := hlist
    interval_cases n <;> rfl
  | x :: y :: tail => interval_cases n <;> rfl

/-- A list that decodes starts with the encoding of its instruction. -/
theorem encode_of_decode {bs rest : List Byte} {i : Instr} (h : decode bs = .ok (i, rest)) : encode i ++ rest = bs := by
  obtain ⟨b0, tail, rfl, hlen, rfl, rfl⟩ := decode_eq_ok h
  rw [encode_decode3, take_getD hlen (lengthOf_le b0).2, List.take_append_drop]

end Sys2Proof
end

section
/-! PROOFS. The secondary table by the fields of its byte (30_encoding.md R87): 8 times the operation or bit number, plus
the register code, where 6 is the byte at HL. -/

namespace Sys2Proof

open Sys2Proof.Stmt

theorem encode_ofShiftR8 (o : ShiftOp) (r : R8) : encode (.ofShiftR8 o r) = [0xCB, op (8 * o.code + r.code)] := by
  cases o <;> cases r <;> rfl

theorem encode_ofShiftAtHl (o : ShiftOp) : encode (.ofShiftAtHl o) = [0xCB, op (8 * o.code + 6)] := by
  cases o <;> rfl

theorem encode_ofBitR8 (n : Fin 8) (r : R8) : encode (.ofBitR8 n r) = [0xCB, op (64 + 8 * n.val + r.code)] := by
  fin_cases n <;> cases r <;> rfl

theorem encode_ofBitAtHl (n : Fin 8) : encode (.ofBitAtHl n) = [0xCB, op (64 + 8 * n.val + 6)] := by
  fin_cases n <;> rfl

theorem encode_ofResR8 (n : Fin 8) (r : R8) : encode (.ofResR8 n r) = [0xCB, op (128 + 8 * n.val + r.code)] := by
  fin_cases n <;> cases r <;> rfl

theorem encode_ofResAtHl (n : Fin 8) : encode (.ofResAtHl n) = [0xCB, op (128 + 8 * n.val + 6)] := by
  fin_cases n <;> rfl

theorem encode_ofSetR8 (n : Fin 8) (r : R8) : encode (.ofSetR8 n r) = [0xCB, op (192 + 8 * n.val + r.code)] := by
  fin_cases n <;> cases r <;> rfl

theorem encode_ofSetAtHl (n : Fin 8) : encode (.ofSetAtHl n) = [0xCB, op (192 + 8 * n.val + 6)] := by
  fin_cases n <;> rfl

end Sys2Proof
end

section
/-! PROOFS. The twelve instructions that fault (30_encoding.md R92): each is its opcode alone and raises the fault with
it; every other operation answers a next state. -/

namespace Sys2Proof.Machine

open Sys2Proof.Stmt

theorem encode_of_mem_faulting : ∀ p ∈ faulting, encode p.2 = [p.1] := by decide

theorem exec_of_mem_faulting {p : Byte × Instr} (h : p ∈ faulting) (s : State) :
    exec p.2 s = .fault (.unimplementedOpcode p.1 false s.pc) := by
  fin_cases h <;> rfl

/-- The operation that ends in a fault. -/
def Shape.raises : Shape → Bool
  | .raiseUnimplemented _ _ => true
  | _ => false

theorem raises_shapeOf (i : Instr) : (shapeOf i).raises = decide (i ∈ faulting.map Prod.snd) := by
  cases i <;> rfl

theorem exists_ite_eq_next {c : Prop} [Decidable c] {t u : State} :
    ∃ v, (if c then .next t else .next u : Result) = .next v := by
  split
  · exact ⟨t, rfl⟩
  · exact ⟨u, rfl⟩

theorem Shape.run_next {p : Shape} (h : p.raises = false) (s : State) : ∃ t, p.run s = .next t := by
  cases p with
  | raiseUnimplemented => nomatch h
  | jumpRelativeIf | jumpAbsoluteIf | callAddrIf | returnIf => exact exists_ite_eq_next
  | _ => exact ⟨_, rfl⟩

theorem exec_next {i : Instr} (h : i ∉ faulting.map Prod.snd) (s : State) : ∃ t, exec i s = .next t := by
  rw [exec_eq_shape]
  exact Shape.run_next (by rw [raises_shapeOf, decide_eq_false h]) s

theorem decode3_of_mem_faulting {p : Byte × Instr} (h : p ∈ faulting) (b1 b2 : Byte) : decode3 p.1 b1 b2 = p.2 := by
  fin_cases h <;> rfl

/-- Three bytes that name one of the twelve start with its opcode, the one byte of its encoding. -/
theorem mem_faultingOpcodes_of_decode3 {b0 b1 b2 : Byte} (h : decode3 b0 b1 b2 ∈ faulting.map Prod.snd) :
    b0 ∈ faultingOpcodes := by
  obtain ⟨p, hp, hname⟩ := List.mem_map.mp h
  have hstart : [p.1] <+: [b0, b1, b2] := by
    rw [← encode_of_mem_faulting p hp, hname, encode_decode3]
    exact List.take_prefix _ _
  have hopcode : p.1 = b0 := (List.cons_prefix_cons.mp hstart).1
  exact hopcode ▸ List.mem_map_of_mem (f := Prod.fst) hp

theorem step_of_mem_faultingOpcodes {s : State} (h : s.peek s.pc ∈ faultingOpcodes) :
    step s = .fault (.unimplementedOpcode (s.peek s.pc) false s.pc) := by
  obtain ⟨p, hp, hopcode⟩ := List.mem_map.mp (show s.peek s.pc ∈ faulting.map Prod.fst from h)
  have hfetched : s.fetched = p.2 := by rw [State.fetched, ← hopcode, decode3_of_mem_faulting hp]
  rw [step_eq_exec, hfetched, exec_of_mem_faulting hp, hopcode, State.fetch_snd]
  rfl

theorem step_of_not_mem_faultingOpcodes {s : State} (h : s.peek s.pc ∉ faultingOpcodes) : ∃ t, step s = .next t := by
  rw [step_eq_exec]
  exact exec_next (mt mem_faultingOpcodes_of_decode3 h) _

end Sys2Proof.Machine
end

section
/-! PROOFS. The fetch in the statements' own words: the instruction it gives, and the state it leaves, are those of as
many reads at increasing addresses as the instruction has bytes (30_encoding.md R94, 20_memory.md R59). -/

namespace Sys2Proof.Machine

open Sys2Proof.Stmt

/-- Reads of the n bytes from an address on. -/
def readsFrom (addr : Word) (n : Nat) : List Access := (List.range n).map fun k => .read (addr + BitVec.ofNat 16 k)

/-- The dispatch state in which an instruction with this opcode runs (10_state.md R33). -/
def dispatchFor (opcode : Byte) : DispatchState := if opcode = 0xCB then .cbFetch else .primaryFetch

theorem primary_eq_cb {b0 : Byte} (h : primary b0 = .cb) : b0 = 0xCB := by
  have hencodes := primary_encodes b0
  rwa [h] at hencodes

theorem dispatchFor_of_cb {b0 : Byte} (h : primary b0 = .cb) : dispatchFor b0 = .cbFetch :=
  if_pos (primary_eq_cb h)

theorem dispatchFor_of_ne_cb {b0 : Byte} (h : primary b0 ≠ .cb) : dispatchFor b0 = .primaryFetch :=
  if_neg fun hcb => h (by rw [hcb]; rfl)

theorem fetched_eq_of_decode {s : State} {i : Instr} {rest : List Byte} (h : decode (nextBytes s) = .ok (i, rest)) :
    s.fetched = i := by
  obtain ⟨b0, tail, hbytes, -, rfl, -⟩ := decode_eq_ok h
  cases hbytes
  rfl

theorem readsFrom_one (addr : Word) : readsFrom addr 1 = [.read addr] := by simp [readsFrom, List.range_succ]

theorem readsFrom_two (addr : Word) : readsFrom addr 2 = [.read addr, .read (addr + 1)] := by
  simp [readsFrom, List.range_succ]

theorem readsFrom_three (addr : Word) : readsFrom addr 3 = [.read addr, .read (addr + 1), .read (addr + 2)] := by
  simp [readsFrom, List.range_succ]

/-- The fetch of a step makes the reads its opcode asks for, and no other. -/
theorem State.fetch_snd_eq_saw (s : State) :
    s.beginStep.fetch.2 = { saw { s with bus := [] } (readsFrom s.pc (lengthOf (s.peek s.pc))) with
      dispatch := dispatchFor (s.peek s.pc) } := by
  have hpeek : s.beginStep.peek s.beginStep.pc = s.peek s.pc := rfl
  rw [lengthOf]
  simp only [State.fetch, State.readByte_fst, hpeek]
  cases hentry : primary (s.peek s.pc) with
  | p1 i =>
    rw [dispatchFor_of_ne_cb (by simp [hentry]), Entry.length, readsFrom_one]
    rfl
  | p2 k =>
    rw [dispatchFor_of_ne_cb (by simp [hentry]), Entry.length, readsFrom_two]
    rfl
  | p3 k =>
    rw [dispatchFor_of_ne_cb (by simp [hentry]), Entry.length, readsFrom_three]
    rfl
  | cb =>
    rw [dispatchFor_of_cb hentry, Entry.length, readsFrom_two]
    rfl

theorem length_encode_fetched (s : State) : (encode s.fetched).length = lengthOf (s.peek s.pc) := by
  rw [State.fetched, encode_decode3, List.length_take]
  exact Nat.min_eq_left (lengthOf_le _).2

end Sys2Proof.Machine
end

section
/-! PROOFS. What a step leaves of the budget (10_state.md R34): every instruction costs 1 to 6 units, and the parameter
that says what a taken ret cc costs is kept. -/

namespace Sys2Proof

theorem Config.wellFormed_iff {g : Config} : g.wellFormed = true ↔ 1 ≤ g.retCcTakenCost ∧ g.retCcTakenCost ≤ 6 := by
  simp [Config.wellFormed]

end Sys2Proof

namespace Sys2Proof.Machine

open Sys2Proof.Stmt

/-- The budget of t is that of s less a cost of 1 to 6 units (70_reset_and_hazards.md R338). -/
def State.Charged (s t : State) : Prop := ∃ cost : Nat, 1 ≤ cost ∧ cost ≤ 6 ∧ t.cycles = s.cycles - cost

theorem State.Charged.bounds {s t : State} (h : s.Charged t) : s.cycles - 6 ≤ t.cycles ∧ t.cycles ≤ s.cycles - 1 := by
  obtain ⟨cost, hone, hsix, hcycles⟩ := h
  omega

theorem Ensures.charged {s t : State} {cost : Nat} (hcycles : t.cycles = s.cycles - cost)
    (hcost : 1 ≤ cost ∧ cost ≤ 6 := by decide) : Ensures s.Charged (.next t) :=
  .next ⟨cost, hcost.1, hcost.2, hcycles⟩

/-- Every cost is written out in its operation, but that of a taken ret cc, which the parameter gives. -/
theorem Shape.run_charged (p : Shape) {s : State} (hconfig : s.config.wellFormed = true) :
    Ensures s.Charged (p.run s) := by
  cases s
  cases p with
  | raiseUnimplemented => exact .fault
  | returnIf => exact .ite (.charged rfl (Config.wellFormed_iff.mp hconfig)) (.charged rfl)
  | jumpRelativeIf | jumpAbsoluteIf | callAddrIf => exact .ite (.charged rfl) (.charged rfl)
  | ldR8R8 r | ldR8N8 r | ldR8AtHl r | incR8 r | decR8 r | shiftR8 _ r | resR8 _ r | setR8Bit _ r =>
    cases r <;> exact .charged rfl
  | ldR16N16 ss | incR16 ss | decR16 ss => cases ss <;> exact .charged rfl
  | popPair q => cases q <;> exact .charged rfl
  | _ => exact .charged rfl

theorem exec_charged {i : Instr} {s t : State} (hconfig : s.config.wellFormed = true) (h : exec i s = .next t) :
    s.Charged t :=
  Shape.run_charged _ hconfig t (exec_eq_shape i s ▸ h)

theorem State.fetch_snd_config (s : State) : s.fetch.2.config = s.config := by
  rw [State.fetch_snd]

theorem State.fetch_snd_cycles (s : State) : s.fetch.2.cycles = s.cycles := by
  rw [State.fetch_snd]

theorem step_config {s t : State} (h : step s = .next t) : t.config = s.config :=
  (exec_frame h).config.trans (State.fetch_snd_config s.beginStep)

theorem step_charged {s t : State} (hconfig : s.config.wellFormed = true) (h : step s = .next t) : s.Charged t := by
  have hfetched : s.beginStep.fetch.2.config.wellFormed = true := by rwa [State.fetch_snd_config]
  obtain ⟨cost, hone, hsix, hcycles⟩ := exec_charged hfetched h
  exact ⟨cost, hone, hsix, by rw [hcycles, State.fetch_snd_cycles]; rfl⟩

end Sys2Proof.Machine
end

section
/-! PROOFS. The loop of run (30_encoding.md R95): what a run does with its next step, that more steps than its budget asks
for change nothing, and how it ends. -/

namespace Sys2Proof.Machine

theorem runSteps_of_spent {s : State} (h : s.cycles ≤ 0) (n : Nat) : runSteps n s = .of .ok s := by
  cases n <;> exact if_pos h

theorem runSteps_fault {s : State} {f : Fault} (h : 0 < s.cycles) (hstep : step s = .fault f) (n : Nat) :
    runSteps (n + 1) s = .of (.fault f) (s.afterRead s.pc) := by
  rw [runSteps, if_neg (Int.not_le.mpr h), hstep]

theorem runSteps_halted {s t : State} (h : 0 < s.cycles) (hstep : step s = .next t) (hout : t.outcome = .halted) (n : Nat) :
    runSteps (n + 1) s = .of .halted t := by
  simp only [runSteps, if_neg (Int.not_le.mpr h), hstep, hout]

theorem runSteps_stopped {s t : State} (h : 0 < s.cycles) (hstep : step s = .next t) (hout : t.outcome = .stopped)
    (n : Nat) : runSteps (n + 1) s = .of .stopped t := by
  simp only [runSteps, if_neg (Int.not_le.mpr h), hstep, hout]

theorem runSteps_ok {s t : State} (h : 0 < s.cycles) (hstep : step s = .next t) (hout : t.outcome = .ok) (n : Nat) :
    runSteps (n + 1) s = runSteps n t := by
  simp only [runSteps, if_neg (Int.not_le.mpr h), hstep, hout]

theorem step_cases (s : State) :
    (∃ t, step s = .next t) ∨ step s = .fault (.unimplementedOpcode (s.peek s.pc) false s.pc) := by
  by_cases h : s.peek s.pc ∈ faultingOpcodes
  · exact .inr (step_of_mem_faultingOpcodes h)
  · exact .inl (step_of_not_mem_faultingOpcodes h)

/-- How a run from a budget of at least -5 may end: by its budget with 0 to -5 left, by halt, by stop or by the fault
(30_encoding.md R95, 70_reset_and_hazards.md R339). -/
def RunResult.Ended (r : RunResult) : Prop :=
  (r.ending = .ok ∧ -5 ≤ r.cycles ∧ r.cycles ≤ 0) ∨ r.ending = .halted ∨ r.ending = .stopped ∨
    ∃ opcode at_, r.ending = .fault (.unimplementedOpcode opcode false at_)

/-- With a budget left, as many steps as it has cycles are at least one. -/
theorem runSteps_eq_of_succ {s : State} {r : RunResult} (hpos : 0 < s.cycles)
    (h : ∀ n : Nat, s.cycles ≤ n + 1 → runSteps (n + 1) s = r) (n : Nat) (hn : s.cycles ≤ n) : runSteps n s = r := by
  cases n with
  | zero => exact absurd hn (Int.not_le.mpr hpos)
  | succ n => exact h n hn

/-- A run has one result, whatever number of steps it is allowed, if that is at least its budget: each step costs at least
one unit (log 12). The budget is at least -5 at each step because it was positive before and a step costs at most six. -/
theorem exists_run_result {s : State} (hconfig : s.config.wellFormed = true) (hlow : -5 ≤ s.cycles) :
    ∃ r : RunResult, r.Ended ∧ ∀ n : Nat, s.cycles ≤ n → runSteps n s = r := by
  induction hbudget : s.cycles.toNat using Nat.strong_induction_on generalizing s with
  | _ budget ih =>
    obtain hspent | hpos := le_or_gt s.cycles 0
    · exact ⟨_, .inl ⟨rfl, hlow, hspent⟩, fun n _ => runSteps_of_spent hspent n⟩
    obtain ⟨t, hstep⟩ | hfault := step_cases s
    · cases hout : t.outcome with
      | halted => exact ⟨_, .inr (.inl rfl), runSteps_eq_of_succ hpos fun n _ => runSteps_halted hpos hstep hout n⟩
      | stopped =>
        exact ⟨_, .inr (.inr (.inl rfl)), runSteps_eq_of_succ hpos fun n _ => runSteps_stopped hpos hstep hout n⟩
      | ok =>
        have hbounds := (step_charged hconfig hstep).bounds
        have ⟨r, hended, hresult⟩ := ih t.cycles.toNat (by omega) (by rwa [step_config hstep]) (by omega) rfl
        exact ⟨r, hended, runSteps_eq_of_succ hpos fun n hn =>
          (runSteps_ok hpos hstep hout n).trans (hresult n (by omega))⟩
    · exact ⟨_, .inr (.inr (.inr ⟨_, _, rfl⟩)), runSteps_eq_of_succ hpos fun n _ => runSteps_fault hpos hfault n⟩

/-- More steps than the budget has cycles change nothing. -/
theorem runSteps_eq_run {s : State} {n : Nat} (hconfig : s.config.wellFormed = true) (hlow : -5 ≤ s.cycles)
    (hn : s.cycles ≤ n) : runSteps n s = run s.pc s.cycles s := by
  obtain ⟨r, -, hresult⟩ := exists_run_result hconfig hlow
  exact (hresult n hn).trans (hresult _ (Int.self_le_toNat _)).symm

end Sys2Proof.Machine
end

section
/-! PROOFS. The statements about encoding, the fault and the run (30_encoding.md, 60_exceptions.md). -/

namespace Sys2Proof.Machine

open Sys2Proof.Stmt

/-- Settles O2, by way of the three bytes that name the instruction. -/
theorem decodeOfEncodeIsTheInstruction : Obligations.DecodeOfEncodeIsTheInstruction :=
  fun i rest _ => decode_encode i rest

/-- Settles O3: a list that decodes starts with the bytes of its instruction. -/
theorem encodeOfDecodeIsTheBytes : Obligations.EncodeOfDecodeIsTheBytes :=
  fun _ _ _ h => encode_of_decode h

/-- Settles O4, by the length that the first byte fixes. -/
theorem decodingIsTotal : Obligations.DecodingIsTotal := by
  refine ⟨fun b => ?_, rfl, fun x rest hlen => ⟨_, decode_of_length_le hlen⟩, fun x rest => decode_of_length_lt, rfl⟩
  have hlength := lengthOf_le b
  omega

/-- Settles O5: the bytes are the encodings of the instructions, and decoding undoes encoding. -/
theorem secondaryFieldsSelectInstruction : Obligations.SecondaryFieldsSelectInstruction := by
  intro r o n
  exact ⟨decode_of_encode (encode_ofShiftR8 o r), decode_of_encode (encode_ofShiftAtHl o),
    decode_of_encode (encode_ofBitR8 n r), decode_of_encode (encode_ofBitAtHl n),
    decode_of_encode (encode_ofResR8 n r), decode_of_encode (encode_ofResAtHl n),
    decode_of_encode (encode_ofSetR8 n r), decode_of_encode (encode_ofSetAtHl n)⟩

/-- Settles O7, by the operation the instruction runs. -/
theorem onlyTheTwelveFault : Obligations.OnlyTheTwelveFault :=
  fun _ s h => exec_next h s

/-- Settles O56: the byte at the pc is the fetched instruction's opcode. -/
theorem safetyIsDecidedByTheOpcodeByte : Obligations.SafetyIsDecidedByTheOpcodeByte := by
  intro s
  refine ⟨fun hsafe => step_of_not_mem_faultingOpcodes ?_, fun hunsafe => step_of_mem_faultingOpcodes ?_⟩
  · simpa [nextStepSafe] using hsafe
  · simpa [nextStepSafe] using hunsafe

/-- Settles O54, by what the loop does with its first step; the rest of a run is a run of its own because the steps that are
left suffice for the budget that is left. -/
theorem runFollowsTheLoop : Obligations.RunFollowsTheLoop := by
  intro pc b s hconfig
  have hsteps (hpos : 0 < b) : ∃ n, b.toNat = n + 1 := Nat.exists_eq_add_one.mpr (by omega)
  refine ⟨fun hspent => runSteps_of_spent (s := { s with pc := pc, cycles := b }) hspent _, fun hpos f hfault => ?_,
    fun hpos t hstep => ?_⟩
  · obtain ⟨n, hn⟩ := hsteps hpos
    rw [run, hn]
    exact runSteps_fault hpos hfault n
  · obtain ⟨n, hn⟩ := hsteps hpos
    rw [run, hn]
    refine ⟨fun hout => runSteps_halted hpos hstep hout n, fun hout => runSteps_stopped hpos hstep hout n, fun hout => ?_⟩
    have hbounds : b - 6 ≤ t.cycles ∧ t.cycles ≤ b - 1 :=
      (step_charged (s := { s with pc := pc, cycles := b }) hconfig hstep).bounds
    rw [runSteps_ok hpos hstep hout, runSteps_eq_run (by rwa [step_config hstep]) (by omega) (by omega)]

/-- Settles O55: the run's result is one of a run that has ended. -/
theorem runOverrunIsAtMostFive : Obligations.RunOverrunIsAtMostFive := by
  intro pc b s hconfig hpos
  obtain ⟨r, hended, hresult⟩ :=
    exists_run_result (s := { s with pc := pc, cycles := b }) hconfig (Int.le_trans (by decide) (Int.le_of_lt hpos))
  rw [run, hresult _ (Int.self_le_toNat b)]
  exact hended

/-- Settles O1, by the table entry of each word's first byte. -/
theorem sampleWordsDecode : Obligations.SampleWordsDecode :=
  ⟨decode_p1 rfl _, decode_p2 rfl _ _, decode_p3 rfl _ _ _, decode_p1 rfl _, decode_p1 rfl _, decode_p3 rfl _ _ _,
    decode_p2 rfl _ _, decode_cb _ _, decode_cb _ _, decode_p1 rfl _⟩

/-- Settles O9, by the fetch: its reads are as many as the encoding has bytes. -/
theorem stepRunsTheDecodedInstruction : Obligations.StepRunsTheDecodedInstruction := by
  intro s i rest h
  rw [step_eq_exec, State.fetch_snd_eq_saw, ← length_encode_fetched, fetched_eq_of_decode h]
  rfl

end Sys2Proof.Machine
end

section
/-! PROOFS. The words of a <Family>Forms statement: the bytes that are an instruction's encoding, and the state after an access
or at the end of a step, each tied to the model's operation that does it. -/

namespace Sys2Proof.Machine

open Sys2Proof.Stmt

theorem coded_of_encode {i : Instr} {bs : List Byte} (h : encode i = bs) : coded bs i := ⟨decode_of_encode h, h⟩

/-- An immediate word stands in the encoding low byte first (30_encoding.md R81). -/
theorem coded_word_of_encode {i : Instr} {x : Byte} {n : Word} (h : encode i = [x, loByte n, hiByte n]) :
    coded [x, lo n, hi n] i := by
  rw [← loByte_eq_lo, ← hiByte_eq_hi]
  exact coded_of_encode h

theorem State.retire_eq_ok (s : State) (target : Word) (cost : Nat) : s.retire target cost = ok s target cost := rfl

theorem State.readByte_snd_eq_saw (s : State) (addr : Word) : (s.readByte addr).2 = saw s [.read addr] := rfl

theorem State.writeByte_eq_stored (s : State) (addr : Word) (v : Byte) : s.writeByte addr v = stored s addr v := rfl

theorem State.writeWord_eq_storedWord (s : State) (addr v : Word) : s.writeWord addr v = storedWord s addr v := by
  rw [State.writeWord, loByte_eq_lo, hiByte_eq_hi]
  rfl

theorem State.push16_eq_pushed (s : State) (v : Word) : s.push16 v = pushed s v := State.writeWord_eq_storedWord _ _ v

theorem State.pop16_fst_eq_popValue (s : State) : s.pop16.1 = popValue s := joinBytes_eq_word _ _

theorem State.pop16_snd_eq_popped (s : State) : s.pop16.2 = popped s := rfl

theorem State.hl_eq_hl (s : State) : s.hl = Stmt.hl s := joinBytes_eq_word _ _

/-- The address `0xFF00 + off` as a number (30_encoding.md R89). -/
def page (off : Byte) : Word := BitVec.ofNat 16 (0xFF00 + off.toNat)

theorem pageAddr_eq_page (off : Byte) : pageAddr off = page off := joinBytes_eq_word _ _

/-- One up modulo 0x10000, in numbers. -/
theorem add_one_eq_ofNat (v : Word) : v + 1 = BitVec.ofNat 16 (v.toNat + 1) := by
  apply BitVec.eq_of_toNat_eq
  simp

/-- One down modulo 0x10000, in numbers: 0xFFFF up. -/
theorem add_neg_one_eq_ofNat (v : Word) : v + -1 = BitVec.ofNat 16 (v.toNat + 0xFFFF) := by
  apply BitVec.eq_of_toNat_eq
  simp

/-- A bit of a byte, as a bit and as a number. -/
theorem getLsbD_eq_bitOf (v : Byte) (n : Fin 8) : v.getLsbD n.val = decide (bitOf v n = 1) := by
  rw [bitOf, BitVec.getLsbD, Nat.testBit_eq_decide_div_mod_eq]

/-- The flag byte in numbers (10_state.md R24). -/
theorem flagByte_eq_op (z c : Bool) : flagByte z c = op (z.toNat * 128 + c.toNat * 16) := by
  cases z <;> cases c <;> rfl

theorem flagByteZ_eq_bitOf (v : Byte) : flagByteZ v = decide (bitOf v 7 = 1) := getLsbD_eq_bitOf v 7

theorem flagByteC_eq_bitOf (v : Byte) : flagByteC v = decide (bitOf v 4 = 1) := getLsbD_eq_bitOf v 4

/-- The flag byte gives back the flags it was made of (10_state.md R24). -/
@[simp] theorem flagByteZ_flagByte (z c : Bool) : flagByteZ (flagByte z c) = z := by
  cases z <;> cases c <;> rfl

@[simp] theorem flagByteC_flagByte (z c : Bool) : flagByteC (flagByte z c) = c := by
  cases z <;> cases c <;> rfl

end Sys2Proof.Machine
end

section
/-! PROOFS. A pop after a push (40_loads.md R134): with the default BUS it returns the word pushed, at every SP, because the two
slots are different cells also where SP wraps. -/

namespace Sys2Proof.Machine

section
variable {s : State} (v : Word) (hram : s.accessors = .plainRam) (hwf : s.mem.wf = true)
include hram hwf

theorem State.peek_push16_lo : (s.push16 v).peek (s.sp - 2) = loByte v :=
  State.peek_writeWord_lo (s := { s with sp := s.sp - 2 }) _ v hram hwf

theorem State.peek_push16_hi : (s.push16 v).peek (s.sp - 2 + 1) = hiByte v :=
  State.peek_writeWord_hi (s := { s with sp := s.sp - 2 }) _ v hram hwf

/-- The step that pushed may have ended in between. -/
theorem State.pop16_fst_retire_push16 (target : Word) (cost : Nat) : ((s.push16 v).retire target cost).pop16.1 = v := by
  have hram' : (s.push16 v).accessors = .plainRam := by simpa using hram
  calc (s.push16 v).pop16.1
    _ = joinBytes ((s.push16 v).peek (s.sp - 2 + 1)) ((s.push16 v).peek (s.sp - 2)) := by
      rw [State.pop16_fst, State.afterRead_plainRam hram', State.push16_sp]
    _ = v := by rw [State.peek_push16_hi v hram hwf, State.peek_push16_lo v hram hwf, joinBytes_halves]

end

theorem exec_pushAf (s : State) : exec .pushAf s = pushAcc s := rfl

theorem exec_popAf (s : State) : exec .popAf s = popAcc s := rfl

/-- A pop into a pair, from a state whose top of the stack is known. -/
theorem popPair_of_pop16_fst (q : Pair) {s : State} {v : Word} (h : s.pop16.1 = v) :
    popPair q s = .next ((s.pop16.2.setPair q v).retire (s.pc + 1) 3) := by
  rw [popPair, h]

/-- A pop into A and the flags, where the top of the stack is what a push of A and the flags makes of them. -/
theorem popAcc_of_pop16_fst {s : State} {acc : Byte} {z c : Bool} (h : s.pop16.1 = joinBytes acc (flagByte z c)) :
    popAcc s = .next ({ s.pop16.2 with a := acc, zf := z, cf := c }.retire (s.pc + 1) 3) := by
  rw [popAcc, h, hiByte_joinBytes, loByte_joinBytes, flagByteZ_flagByte, flagByteC_flagByte]

end Sys2Proof.Machine
end

section
/-! PROOFS. Each shared load, store, push and pop in the words of the statements: what it answers, said once for the
instructions that run it; and the encodings of the families (40_loads.md R110 to R135). -/

namespace Sys2Proof

open Sys2Proof.Stmt

theorem encode_ofLdR8R8 (dst r : R8) : encode (.ofLdR8R8 dst r) = [op (0x40 + 8 * dst.code + r.code)] := by
  cases dst <;> cases r <;> rfl

theorem encode_ofLdR8N8 (dst : R8) (n : Byte) : encode (.ofLdR8N8 dst n) = [op (8 * dst.code + 6), n] := by
  cases dst <;> rfl

theorem encode_ofLdR8AtHl (dst : R8) : encode (.ofLdR8AtHl dst) = [op (0x40 + 8 * dst.code + 6)] := by
  cases dst <;> rfl

theorem encode_ofLdAtHlR8 (r : R8) : encode (.ofLdAtHlR8 r) = [op (0x70 + r.code)] := by
  cases r <;> rfl

theorem encode_ofLdR16N16 (ss : R16) (n : Word) :
    encode (.ofLdR16N16 ss n) = [op (16 * ss.code + 1), loByte n, hiByte n] := by
  cases ss <;> rfl

theorem encode_ofPushPair (q : Pair) : encode (.ofPushPair q) = [op (0xC5 + 16 * q.code)] := by
  cases q <;> rfl

theorem encode_ofPopPair (q : Pair) : encode (.ofPopPair q) = [op (0xC1 + 16 * q.code)] := by
  cases q <;> rfl

end Sys2Proof

namespace Sys2Proof.Machine

open Sys2Proof.Stmt

theorem ldR8AtHl_eq_ok (dst : R8) (s : State) :
    ldR8AtHl dst s = .next (ok ((saw s [.read (hl s)]).setR8 dst (s.peek (hl s))) (s.pc + 1) 2) := by
  rw [ldR8AtHl_eq, State.hl_eq_hl, State.readByte_snd_eq_saw, State.retire_eq_ok]

theorem ldAtHlR8_eq_ok (r : R8) (s : State) : ldAtHlR8 r s = .next (ok (stored s (hl s) (s.getR8 r)) (s.pc + 1) 2) := by
  rw [ldAtHlR8_eq, State.hl_eq_hl, State.writeByte_eq_stored, State.retire_eq_ok]

theorem ldAtHlImm_eq_ok (n : Byte) (s : State) : ldAtHlImm n s = .next (ok (stored s (hl s) n) (s.pc + 2) 3) := by
  rw [ldAtHlImm_eq, State.hl_eq_hl, State.writeByte_eq_stored, State.retire_eq_ok]

theorem ldAccAtPair_eq_ok (q : Pair) (s : State) : ldAccAtPair q s =
    .next (ok { saw s [.read (pair s q)] with a := s.peek (pair s q) } (s.pc + 1) 2) := by
  rw [ldAccAtPair_eq, State.getPair_eq_pair, State.readByte_snd_eq_saw, State.retire_eq_ok]

theorem ldAtPairAcc_eq_ok (q : Pair) (s : State) :
    ldAtPairAcc q s = .next (ok (stored s (pair s q) s.a) (s.pc + 1) 2) := by
  rw [ldAtPairAcc_eq, State.getPair_eq_pair, State.writeByte_eq_stored, State.retire_eq_ok]

theorem ldAccAtPage_eq_ok (k : Byte) (s : State) : ldAccAtPage k s =
    .next (ok { saw s [.read (page k)] with a := s.peek (page k) } (s.pc + 2) 3) := by
  rw [ldAccAtPage_eq, pageAddr_eq_page, State.readByte_snd_eq_saw, State.retire_eq_ok]

theorem ldAtPageAcc_eq_ok (k : Byte) (s : State) : ldAtPageAcc k s = .next (ok (stored s (page k) s.a) (s.pc + 2) 3) := by
  rw [ldAtPageAcc_eq, pageAddr_eq_page, State.writeByte_eq_stored, State.retire_eq_ok]

theorem ldAccAtPageC_eq_ok (s : State) : ldAccAtPageC s =
    .next (ok { saw s [.read (page s.c)] with a := s.peek (page s.c) } (s.pc + 1) 2) := by
  rw [ldAccAtPageC_eq, pageAddr_eq_page, State.readByte_snd_eq_saw, State.retire_eq_ok]

theorem ldAtPageCAcc_eq_ok (s : State) : ldAtPageCAcc s = .next (ok (stored s (page s.c) s.a) (s.pc + 1) 2) := by
  rw [ldAtPageCAcc_eq, pageAddr_eq_page, State.writeByte_eq_stored, State.retire_eq_ok]

theorem ldAtHlStepAcc_eq_ok (by_ : Word) (s : State) :
    ldAtHlStepAcc by_ s = .next (ok (putPair (stored s (hl s) s.a) .hl (hl s + by_)) (s.pc + 1) 2) := by
  rw [ldAtHlStepAcc_eq, State.hl_eq_hl, State.writeByte_eq_stored, State.setPair_eq_putPair, State.retire_eq_ok]

theorem ldAccAtHlStep_eq_ok (by_ : Word) (s : State) : ldAccAtHlStep by_ s =
    .next (ok (putPair { saw s [.read (hl s)] with a := s.peek (hl s) } .hl (hl s + by_)) (s.pc + 1) 2) := by
  rw [ldAccAtHlStep_eq, State.hl_eq_hl, State.readByte_snd_eq_saw, State.setPair_eq_putPair, State.retire_eq_ok]

theorem ldR16N16_eq_ok (ss : R16) (n : Word) (s : State) :
    ldR16N16 ss n s = .next (ok (putReg16 s ss n) (s.pc + 3) 3) := by
  rw [ldR16N16_eq, State.setR16_eq_putReg16, State.retire_eq_ok]

theorem ldAtAddrSp_eq_ok (n : Word) (s : State) : ldAtAddrSp n s = .next (ok (storedWord s n s.sp) (s.pc + 3) 5) := by
  rw [ldAtAddrSp_eq, State.writeWord_eq_storedWord, State.retire_eq_ok]

theorem ldStackHl_eq_ok (s : State) : ldStackHl s = .next (ok { s with sp := hl s } (s.pc + 1) 2) := by
  rw [ldStackHl_eq, State.hl_eq_hl, State.retire_eq_ok]

theorem pushPair_eq_ok (q : Pair) (s : State) : pushPair q s = .next (ok (pushed s (pair s q)) (s.pc + 1) 4) := by
  rw [pushPair_eq, State.getPair_eq_pair, State.push16_eq_pushed, State.retire_eq_ok]

theorem pushAcc_eq_ok (s : State) :
    pushAcc s = .next (ok (pushed s (word s.a (op (s.zf.toNat * 128 + s.cf.toNat * 16)))) (s.pc + 1) 4) := by
  rw [pushAcc_eq, joinBytes_eq_word, flagByte_eq_op, State.push16_eq_pushed, State.retire_eq_ok]

theorem popPair_eq_ok (q : Pair) (s : State) :
    popPair q s = .next (ok (putPair (popped s) q (popValue s)) (s.pc + 1) 3) := by
  rw [popPair, State.pop16_fst_eq_popValue, State.pop16_snd_eq_popped, State.setPair_eq_putPair, State.retire_eq_ok]

theorem popAcc_eq_ok (s : State) : popAcc s = .next (ok { popped s with
    a := (saw s [.read s.sp]).peek (s.sp + 1), zf := decide (bitOf (s.peek s.sp) 7 = 1),
    cf := decide (bitOf (s.peek s.sp) 4 = 1) } (s.pc + 1) 3) := by
  rw [popAcc_eq, State.pop16_snd_eq_popped, flagByteZ_eq_bitOf, flagByteC_eq_bitOf, State.retire_eq_ok]
  rfl

end Sys2Proof.Machine
end

section
/-! PROOFS. The statements about loads, stores and the stack (40_loads.md). -/

namespace Sys2Proof.Machine

open Sys2Proof.Stmt

/-- Settles O17, by the shared operation each family runs. -/
theorem ldRegisterForms : Obligations.LdRegisterForms := by
  intro dst r n s
  refine ⟨coded_of_encode (encode_ofLdR8R8 dst r), ?_, coded_of_encode (encode_ofLdR8N8 dst n), ?_,
    coded_of_encode (encode_ofLdR8AtHl dst), ?_⟩
  · rw [exec_ofLdR8R8, ldR8R8_eq, State.retire_eq_ok]
  · rw [exec_ofLdR8N8, ldR8N8_eq, State.retire_eq_ok]
  · rw [exec_ofLdR8AtHl, ldR8AtHl_eq_ok]

/-- Settles O18: the store of a register is one operation for all seven. -/
theorem ldMemoryForms : Obligations.LdMemoryForms := by
  intro r n s
  refine ⟨coded_of_encode (encode_ofLdAtHlR8 r), ?_, coded_of_encode rfl, ldAtHlImm_eq_ok n s⟩
  rw [exec_ofLdAtHlR8, ldAtHlR8_eq_ok]

/-- Settles O19: BC and DE are two pairs of one operation in each direction. -/
theorem ldAccumulatorPointerForms : Obligations.LdAccumulatorPointerForms := fun s =>
  ⟨⟨coded_of_encode rfl, ldAccAtPair_eq_ok .bc s⟩, ⟨coded_of_encode rfl, ldAccAtPair_eq_ok .de s⟩,
    ⟨coded_of_encode rfl, ldAtPairAcc_eq_ok .bc s⟩, ⟨coded_of_encode rfl, ldAtPairAcc_eq_ok .de s⟩⟩

/-- Settles O20: the page address is `0xFF00 + off` because the page byte is the high one. -/
theorem ldAccumulatorAddressForms : Obligations.LdAccumulatorAddressForms := fun n k s =>
  ⟨⟨coded_word_of_encode rfl, ldAccAtAddr_eq n s⟩, ⟨coded_word_of_encode rfl, ldAtAddrAcc_eq n s⟩,
    ⟨coded_of_encode rfl, ldAccAtPage_eq_ok k s⟩, ⟨coded_of_encode rfl, ldAtPageAcc_eq_ok k s⟩,
    ⟨coded_of_encode rfl, ldAccAtPageC_eq_ok s⟩, ⟨coded_of_encode rfl, ldAtPageCAcc_eq_ok s⟩⟩

/-- Settles O21: a step of HL by 1 or -1 is the sum modulo 0x10000. -/
theorem ldHlStepForms : Obligations.LdHlStepForms := by
  intro s up down
  have hup : up = hl s + 1 := (add_one_eq_ofNat _).symm
  have hdown : down = hl s + -1 := (add_neg_one_eq_ofNat _).symm
  rw [hup, hdown]
  exact ⟨⟨coded_of_encode rfl, ldAtHlStepAcc_eq_ok 1 s⟩, ⟨coded_of_encode rfl, ldAtHlStepAcc_eq_ok (-1) s⟩,
    ⟨coded_of_encode rfl, ldAccAtHlStep_eq_ok 1 s⟩, ⟨coded_of_encode rfl, ldAccAtHlStep_eq_ok (-1) s⟩⟩

/-- Settles O22, by the word store and the write of a 16-bit register. -/
theorem ldSixteenBitForms : Obligations.LdSixteenBitForms := by
  intro ss n s
  refine ⟨coded_word_of_encode (encode_ofLdR16N16 ss n), ?_, coded_word_of_encode rfl, ldAtAddrSp_eq_ok n s,
    coded_of_encode rfl, ldStackHl_eq_ok s⟩
  rw [exec_ofLdR16N16, ldR16N16_eq_ok]

/-- Settles O23: both forms are one push, of the pair or of A and the flag byte. -/
theorem pushForms : Obligations.PushForms := by
  intro q s
  refine ⟨coded_of_encode (encode_ofPushPair q), ?_, coded_of_encode rfl, pushAcc_eq_ok s⟩
  rw [exec_ofPushPair, pushPair_eq_ok]

/-- Settles O24: both forms are one pop; pop af keeps bits 7 and 4 of the low byte. -/
theorem popForms : Obligations.PopForms := by
  intro q s
  refine ⟨coded_of_encode (encode_ofPopPair q), ?_, coded_of_encode rfl, popAcc_eq_ok s⟩
  rw [exec_ofPopPair, popPair_eq_ok]

/-- Settles O25: the pop reads back the word the push wrote, and SP is 2 down, then 2 up. -/
theorem pushThenPopRestores : Obligations.PushThenPopRestores := by
  intro q q2 s hram hwf
  constructor
  · refine ⟨_, _, (exec_ofPushPair q s).trans (pushPair_eq q s),
      (exec_ofPopPair q2 _).trans (popPair_of_pop16_fst q2 (State.pop16_fst_retire_push16 _ hram hwf _ _)), ?_⟩
    rw [← State.getPair_eq_pair, ← State.getPair_eq_pair]
    exact ⟨State.getPair_setPair_same _ q2 _, by simp⟩
  · refine ⟨_, _, (exec_pushAf s).trans (pushAcc_eq s),
      (exec_popAf _).trans (popAcc_of_pop16_fst (State.pop16_fst_retire_push16 _ hram hwf _ _)), ?_⟩
    simp

end Sys2Proof.Machine
end

section
/-! PROOFS. The results and flags of 8-bit arithmetic (41_alu8.md R150 to R183) as the numbers the statements write. -/

namespace Sys2Proof.Machine

open Sys2Proof.Stmt

theorem isZero_eq_toNat (v : Byte) : isZero v = decide (v.toNat = 0) := by
  rw [isZero, Bool.beq_eq_decide_eq]
  exact decide_eq_decide.mpr BitVec.toNat_inj.symm

/-- A result taken modulo 0x100 from a natural number, with its zero flag (10_state.md R27). -/
theorem isZero_ofNat (n : Nat) : isZero (BitVec.ofNat 8 n) = decide (n % 0x100 = 0) := by
  rw [isZero_eq_toNat, BitVec.toNat_ofNat]

/-- One up modulo 0x100, in numbers. -/
theorem add_one_eq_op (v : Byte) : v + 1 = op ((v.toNat + 1) % 0x100) := by
  apply BitVec.eq_of_toNat_eq
  simp [op]

/-- One down modulo 0x100, in numbers: 0xFF up. -/
theorem sub_one_eq_op (v : Byte) : v - 1 = op ((v.toNat + 0xFF) % 0x100) := by
  apply BitVec.eq_of_toNat_eq
  simp [op, BitVec.toNat_sub, Nat.add_comm]

theorem isZero_add_one (v : Byte) : isZero (v + 1) = decide (v = 0xFF) := by
  rw [isZero, Bool.beq_eq_decide_eq]
  exact decide_eq_decide.mpr (by bv_omega)

theorem isZero_sub_one (v : Byte) : isZero (v - 1) = decide (v = 0x01) := by
  rw [isZero, Bool.beq_eq_decide_eq]
  exact decide_eq_decide.mpr (by bv_omega)

theorem not_eq_op (v : Byte) : ~~~v = op (0xFF - v.toNat) := by
  apply BitVec.eq_of_toNat_eq
  rw [BitVec.toNat_not, op, BitVec.toNat_ofNat]
  omega

/-- The exact sum of `add8`, narrowed (41_alu8.md R150). -/
theorem add8_eq (x y : Byte) (cin : Bool) : add8 x y cin =
    (BitVec.ofNat 8 ((x.toNat + y.toNat + cin.toNat) % 0x100), decide ((x.toNat + y.toNat + cin.toNat) % 0x100 = 0),
      decide (x.toNat + y.toNat + cin.toNat > 0xFF)) := by
  have hres (n : Nat) : BitVec.ofNat 8 (n % 0x100) = BitVec.ofNat 8 n := BitVec.eq_of_toNat_eq (by simp)
  rw [add8, isZero_ofNat, hres]

/-- The difference of `sub8`, an integer down to -0x100, is narrowed as the natural number 0x100 above it (41_alu8.md R151). -/
theorem ofInt_sub_eq_ofNat (x y : Byte) (cin : Bool) :
    BitVec.ofInt 8 ((x.toNat : Int) - y.toNat - cin.toNat) =
      BitVec.ofNat 8 ((x.toNat + 0x100 - y.toNat - cin.toNat) % 0x100) := by
  have hy := y.isLt
  have hcin := cin.toNat_le
  apply BitVec.eq_of_toNat_eq
  rw [BitVec.toNat_ofInt, BitVec.toNat_ofNat]
  omega

theorem sub8_eq (x y : Byte) (cin : Bool) : sub8 x y cin =
    (BitVec.ofNat 8 ((x.toNat + 0x100 - y.toNat - cin.toNat) % 0x100),
      decide ((x.toNat + 0x100 - y.toNat - cin.toNat) % 0x100 = 0), decide (x.toNat < y.toNat + cin.toNat)) := by
  have hborrow : (x.toNat : Int) - y.toNat - cin.toNat < 0 ↔ x.toNat < y.toNat + cin.toNat := by omega
  rw [sub8, ofInt_sub_eq_ofNat, isZero_ofNat, Nat.mod_mod, decide_eq_decide.mpr hborrow]

/-- A compare: the difference is 0 modulo 0x100 just for equal bytes, because it is less than 0x100 either way. -/
theorem sub8_snd_false (x y : Byte) : (sub8 x y false).2 = (decide (x = y), decide (x.toNat < y.toNat)) := by
  have hzero : (x.toNat + 0x100 - y.toNat - false.toNat) % 0x100 = 0 ↔ x = y := by
    rw [← BitVec.toNat_inj, Bool.toNat_false]
    omega
  rw [sub8_eq, decide_eq_decide.mpr hzero]
  rfl

theorem State.applyAlu_add (s : State) (v : Byte) : s.applyAlu .add v = added s v false := by
  rw [State.applyAlu, alu8, add8_eq]
  rfl

theorem State.applyAlu_adc (s : State) (v : Byte) : s.applyAlu .adc v = added s v s.cf := by
  rw [State.applyAlu, alu8, add8_eq]
  rfl

theorem State.applyAlu_sub (s : State) (v : Byte) : s.applyAlu .sub v = subtracted s v false := by
  rw [State.applyAlu, alu8, sub8_eq]
  rfl

theorem State.applyAlu_sbc (s : State) (v : Byte) : s.applyAlu .sbc v = subtracted s v s.cf := by
  rw [State.applyAlu, alu8, sub8_eq]
  rfl

theorem State.applyAlu_and (s : State) (v : Byte) : s.applyAlu .and v = bitwise s (s.a &&& v) := by
  rw [State.applyAlu, alu8, logic8, isZero_eq_toNat]
  rfl

theorem State.applyAlu_xor (s : State) (v : Byte) : s.applyAlu .xor v = bitwise s (s.a ^^^ v) := by
  rw [State.applyAlu, alu8, logic8, isZero_eq_toNat]
  rfl

theorem State.applyAlu_or (s : State) (v : Byte) : s.applyAlu .or v = bitwise s (s.a ||| v) := by
  rw [State.applyAlu, alu8, logic8, isZero_eq_toNat]
  rfl

theorem State.applyAlu_cp (s : State) (v : Byte) : s.applyAlu .cp v = compared s v := by
  rw [State.applyAlu, alu8, sub8_snd_false]
  rfl

/-- An accumulator operation does not see a read before it: it makes no access and the read writes no register or flag. -/
theorem State.applyAlu_saw_read (s : State) (o : AluOp) (v : Byte) (addr : Word) :
    (saw s [.read addr]).applyAlu o v = saw (s.applyAlu o v) [.read addr] := rfl

end Sys2Proof.Machine
end

section
/-! PROOFS. Each shared operation of 8-bit arithmetic in the words of the statements, and the encodings of the families
(30_encoding.md R86). -/

namespace Sys2Proof

open Sys2Proof.Stmt

theorem encode_ofIncR8 (r : R8) : encode (.ofIncR8 r) = [op (8 * r.code + 4)] := by
  cases r <;> rfl

theorem encode_ofDecR8 (r : R8) : encode (.ofDecR8 r) = [op (8 * r.code + 5)] := by
  cases r <;> rfl

theorem encode_ofAluR8 (o : AluOp) (r : R8) : encode (.ofAluR8 o r) = [op (0x80 + 8 * o.code + r.code)] := by
  cases o <;> cases r <;> rfl

theorem encode_ofAluAtHl (o : AluOp) : encode (.ofAluAtHl o) = [op (0x80 + 8 * o.code + 6)] := by
  cases o <;> rfl

theorem encode_ofAluN8 (o : AluOp) (n : Byte) : encode (.ofAluN8 o n) = [op (0xC6 + 8 * o.code), n] := by
  cases o <;> rfl

end Sys2Proof

namespace Sys2Proof.Machine

open Sys2Proof.Stmt

theorem incR8_eq_ok (r : R8) (s : State) : incR8 r s =
    .next (ok { s.setR8 r (op (((s.getR8 r).toNat + 1) % 0x100)) with zf := decide (s.getR8 r = 0xFF) } (s.pc + 1) 1) := by
  rw [incR8_eq, isZero_add_one, add_one_eq_op, State.retire_eq_ok]

theorem decR8_eq_ok (r : R8) (s : State) : decR8 r s =
    .next (ok { s.setR8 r (op (((s.getR8 r).toNat + 0xFF) % 0x100)) with zf := decide (s.getR8 r = 0x01) } (s.pc + 1) 1) := by
  rw [decR8_eq, isZero_sub_one, sub_one_eq_op, State.retire_eq_ok]

theorem incMem_eq_ok (s : State) : incMem s =
    .next (ok { stored (saw s [.read (hl s)]) (hl s) (op (((s.peek (hl s)).toNat + 1) % 0x100)) with
      zf := decide (s.peek (hl s) = 0xFF) } (s.pc + 1) 3) := by
  rw [incMem_eq, State.hl_eq_hl, isZero_add_one, add_one_eq_op, State.readByte_snd_eq_saw, State.writeByte_eq_stored,
    State.retire_eq_ok]

theorem decMem_eq_ok (s : State) : decMem s =
    .next (ok { stored (saw s [.read (hl s)]) (hl s) (op (((s.peek (hl s)).toNat + 0xFF) % 0x100)) with
      zf := decide (s.peek (hl s) = 0x01) } (s.pc + 1) 3) := by
  rw [decMem_eq, State.hl_eq_hl, isZero_sub_one, sub_one_eq_op, State.readByte_snd_eq_saw, State.writeByte_eq_stored,
    State.retire_eq_ok]

theorem complementAcc_eq_ok (s : State) :
    complementAcc s = .next (ok { s with a := op (0xFF - s.a.toNat) } (s.pc + 1) 1) := by
  rw [complementAcc_eq, not_eq_op, State.retire_eq_ok]

theorem complementCarry_eq_ok (s : State) :
    complementCarry s = .next (ok { s with cf := decide (s.cf = false) } (s.pc + 1) 1) := by
  rw [complementCarry_eq, Bool.decide_eq_false, State.retire_eq_ok]

/-- The three operand forms of an accumulator operation, whose effect on A and the flags is known in a statement's words. -/
theorem aluForms {o : AluOp} {s : State} {effect : Byte → State} (heffect : ∀ v, s.applyAlu o v = effect v) (r : R8)
    (n : Byte) :
    (coded [op (0x80 + 8 * o.code + r.code)] (.ofAluR8 o r) ∧
      exec (.ofAluR8 o r) s = .next (ok (effect (s.getR8 r)) (s.pc + 1) 1)) ∧
    (coded [op (0x80 + 8 * o.code + 6)] (.ofAluAtHl o) ∧
      exec (.ofAluAtHl o) s = .next (ok (saw (effect (s.peek (hl s))) [.read (hl s)]) (s.pc + 1) 2)) ∧
    (coded [op (0xC6 + 8 * o.code), n] (.ofAluN8 o n) ∧
      exec (.ofAluN8 o n) s = .next (ok (effect n) (s.pc + 2) 2)) := by
  refine ⟨⟨coded_of_encode (encode_ofAluR8 o r), ?_⟩, ⟨coded_of_encode (encode_ofAluAtHl o), ?_⟩,
    ⟨coded_of_encode (encode_ofAluN8 o n), ?_⟩⟩
  · rw [exec_ofAluR8, aluR8_eq, heffect, State.retire_eq_ok]
  · rw [exec_ofAluAtHl, aluMem_eq, State.hl_eq_hl, State.readByte_snd_eq_saw, State.applyAlu_saw_read, heffect,
      State.retire_eq_ok]
  · rw [exec_ofAluN8, aluImm_eq, heffect, State.retire_eq_ok]

end Sys2Proof.Machine
end

section
/-! PROOFS. The statements about 8-bit arithmetic and logic (41_alu8.md), and the fault of daa and its like (R180). -/

namespace Sys2Proof.Machine

open Sys2Proof.Stmt

/-- Settles O27: add is the sum without a carry in, adc the sum with CF. -/
theorem addForms : Obligations.AddForms := by
  intro r n s
  obtain ⟨addR8, addAtHl, addN8⟩ := aluForms (State.applyAlu_add s) r n
  obtain ⟨adcR8, adcAtHl, adcN8⟩ := aluForms (State.applyAlu_adc s) r n
  exact ⟨addR8, addAtHl, addN8, adcR8, adcAtHl, adcN8⟩

/-- Settles O28: the difference is read modulo 0x100, so ZF is set at 0 and at -0x100 alike. -/
theorem subForms : Obligations.SubForms := by
  intro r n s
  obtain ⟨subR8, subAtHl, subN8⟩ := aluForms (State.applyAlu_sub s) r n
  obtain ⟨sbcR8, sbcAtHl, sbcN8⟩ := aluForms (State.applyAlu_sbc s) r n
  exact ⟨subR8, subAtHl, subN8, sbcR8, sbcAtHl, sbcN8⟩

/-- Settles O29: the three operations differ in the result alone. -/
theorem logicForms : Obligations.LogicForms := by
  intro r n s
  obtain ⟨andR8, andAtHl, andN8⟩ := aluForms (State.applyAlu_and s) r n
  obtain ⟨xorR8, xorAtHl, xorN8⟩ := aluForms (State.applyAlu_xor s) r n
  obtain ⟨orR8, orAtHl, orN8⟩ := aluForms (State.applyAlu_or s) r n
  exact ⟨andR8, andAtHl, andN8, xorR8, xorAtHl, xorN8, orR8, orAtHl, orN8⟩

/-- Settles O30: a difference of two bytes is 0 modulo 0x100 just where they are equal. -/
theorem compareForms : Obligations.CompareForms := by
  intro r n s
  obtain ⟨cpR8, cpAtHl, cpN8⟩ := aluForms (State.applyAlu_cp s) r n
  exact ⟨cpR8, cpAtHl, cpN8⟩

/-- Settles O6, over the list of the twelve. -/
theorem twelveOpcodesFault : Obligations.TwelveOpcodesFault := fun p hp =>
  ⟨coded_of_encode (encode_of_mem_faulting p hp), exec_of_mem_faulting hp⟩

/-- Settles O26: the result is 0 just where the operand was 0xFF (inc) or 0x01 (dec). -/
theorem incDecForms : Obligations.IncDecForms := by
  intro r s up down
  exact ⟨⟨coded_of_encode (encode_ofIncR8 r), (exec_ofIncR8 r s).trans (incR8_eq_ok r s)⟩,
    ⟨coded_of_encode (encode_ofDecR8 r), (exec_ofDecR8 r s).trans (decR8_eq_ok r s)⟩,
    ⟨coded_of_encode rfl, incMem_eq_ok s⟩, ⟨coded_of_encode rfl, decMem_eq_ok s⟩⟩

/-- Settles O31, by the one operation each of the three runs. -/
theorem complementAndCarryForms : Obligations.ComplementAndCarryForms := fun s =>
  ⟨⟨coded_of_encode rfl, complementAcc_eq_ok s⟩, ⟨coded_of_encode rfl, setCarry_eq s⟩,
    ⟨coded_of_encode rfl, complementCarry_eq_ok s⟩⟩

end Sys2Proof.Machine
end

section
/-! PROOFS. 16-bit arithmetic (42_alu16.md R190 to R195): its results and carries as the numbers the statements write, each shared
operation in the words of the statements, and the encodings of the families (30_encoding.md R86). -/

namespace Sys2Proof

open Sys2Proof.Stmt

theorem encode_ofIncR16 (ss : R16) : encode (.ofIncR16 ss) = [op (16 * ss.code + 3)] := by
  cases ss <;> rfl

theorem encode_ofDecR16 (ss : R16) : encode (.ofDecR16 ss) = [op (16 * ss.code + 11)] := by
  cases ss <;> rfl

theorem encode_ofAddHlR16 (ss : R16) : encode (.ofAddHlR16 ss) = [op (16 * ss.code + 9)] := by
  cases ss <;> rfl

end Sys2Proof

namespace Sys2Proof.Machine

open Sys2Proof.Stmt

/-- One down as a difference, in numbers. -/
theorem sub_one_eq_ofNat (v : Word) : v - 1 = BitVec.ofNat 16 (v.toNat + 0xFFFF) :=
  (BitVec.sub_eq_add_neg v 1).trans (add_neg_one_eq_ofNat v)

/-- The 16-bit sum, in numbers. -/
theorem add_eq_ofNat_mod (v w : Word) : v + w = BitVec.ofNat 16 ((v.toNat + w.toNat) % 0x10000) := by
  apply BitVec.eq_of_toNat_eq
  simp

/-- The sign extension of a byte as a number: 0xFF00 is added where bit 7 is set (00_scope.md R9). -/
theorem sext16_toNat (b : Byte) : (sext16 b).toNat = if b.toNat < 0x80 then b.toNat else b.toNat + 0xFF00 := by
  have hb := b.isLt
  have hmod : b.toNat % 2 ^ 16 = b.toNat := Nat.mod_eq_of_lt (by omega)
  have hmsb : b.msb = decide (0x80 ≤ b.toNat) := BitVec.msb_eq_decide b
  rw [sext16, BitVec.toNat_signExtend, BitVec.toNat_setWidth, hmod, hmsb]
  by_cases hpos : b.toNat < 0x80
  · rw [if_pos hpos, decide_eq_false (by omega)]
    rfl
  · rw [if_neg hpos, decide_eq_true (by omega)]
    rfl

theorem add_sext16_eq_spPlus (sp : Word) (b : Byte) : sp + sext16 b = spPlus sp b := by
  apply BitVec.eq_of_toNat_eq
  rw [spPlus, ← sext16_toNat, BitVec.toNat_add, BitVec.toNat_ofNat]

/-- The carry comes out of the unsigned low-byte sum (42_alu16.md R190). -/
theorem lowCarry_eq_spCarry (sp : Word) (b : Byte) :
    decide ((loByte sp).toNat + b.toNat > 0xFF) = spCarry sp b := by
  have hlow : (loByte sp).toNat = sp.toNat % 0x100 := by simp [loByte]
  rw [spCarry, hlow]

theorem incR16_eq_ok (ss : R16) (s : State) : incR16 ss s =
    .next (ok (putReg16 s ss (BitVec.ofNat 16 ((reg16 s ss).toNat + 1))) (s.pc + 1) 2) := by
  rw [incR16_eq, State.getR16_eq_reg16, State.setR16_eq_putReg16, add_one_eq_ofNat, State.retire_eq_ok]

theorem decR16_eq_ok (ss : R16) (s : State) : decR16 ss s =
    .next (ok (putReg16 s ss (BitVec.ofNat 16 ((reg16 s ss).toNat + 0xFFFF))) (s.pc + 1) 2) := by
  rw [decR16_eq, State.getR16_eq_reg16, State.setR16_eq_putReg16, sub_one_eq_ofNat, State.retire_eq_ok]

theorem addHlR16_eq_ok (ss : R16) (s : State) : addHlR16 ss s =
    .next (ok { putPair s .hl (BitVec.ofNat 16 (((hl s).toNat + (reg16 s ss).toNat) % 0x10000)) with
      cf := decide ((hl s).toNat + (reg16 s ss).toNat ≥ 0x10000) } (s.pc + 1) 2) := by
  rw [addHlR16_eq, State.hl_eq_hl, State.getR16_eq_reg16, State.setPair_eq_putPair, add_eq_ofNat_mod, State.retire_eq_ok]

theorem addSpImm_eq_ok (e : Byte) (s : State) : addSpImm e s =
    .next (ok { s with sp := spPlus s.sp e, zf := false, cf := spCarry s.sp e } (s.pc + 2) 4) := by
  rw [addSpImm_eq, add_sext16_eq_spPlus, lowCarry_eq_spCarry, State.retire_eq_ok]

theorem ldHlSpImm_eq_ok (e : Byte) (s : State) : ldHlSpImm e s =
    .next (ok { putPair s .hl (spPlus s.sp e) with zf := false, cf := spCarry s.sp e } (s.pc + 2) 3) := by
  rw [ldHlSpImm_eq, add_sext16_eq_spPlus, lowCarry_eq_spCarry, State.setPair_eq_putPair, State.retire_eq_ok]

end Sys2Proof.Machine
end

section
/-! PROOFS. The statements about 16-bit arithmetic (42_alu16.md). -/

namespace Sys2Proof.Machine

open Sys2Proof.Stmt

/-- Settles O32: the ripple across the halves of a pair is the 16-bit step that SP makes at once. -/
theorem incDecSixteenForms : Obligations.IncDecSixteenForms := fun ss s =>
  ⟨coded_of_encode (encode_ofIncR16 ss), (exec_ofIncR16 ss s).trans (incR16_eq_ok ss s),
    coded_of_encode (encode_ofDecR16 ss), (exec_ofDecR16 ss s).trans (decR16_eq_ok ss s)⟩

/-- Settles O33: the forms with e8 share one sum, which extends the sign of the byte, and one carry, which does not. -/
theorem addSixteenForms : Obligations.AddSixteenForms := fun ss e s =>
  ⟨⟨coded_of_encode (encode_ofAddHlR16 ss), (exec_ofAddHlR16 ss s).trans (addHlR16_eq_ok ss s)⟩,
    ⟨coded_of_encode rfl, addSpImm_eq_ok e s⟩, ⟨coded_of_encode rfl, ldHlSpImm_eq_ok e s⟩⟩

end Sys2Proof.Machine
end

section
/-! PROOFS. Control transfer (43_control.md R210 to R221): the condition and the targets in the numbers the statements write, each
shared operation in the words of the statements, and the encodings of the families (30_encoding.md R85, R88). -/

namespace Sys2Proof

open Sys2Proof.Stmt

theorem encode_ofJrCc (cc : Cond) (e : Byte) : encode (.ofJrCc cc e) = [op (0x20 + 8 * cc.code), e] := by
  cases cc <;> rfl

theorem encode_ofJpCc (cc : Cond) (n : Word) :
    encode (.ofJpCc cc n) = [op (0xC2 + 8 * cc.code), loByte n, hiByte n] := by
  cases cc <;> rfl

theorem encode_ofCallCc (cc : Cond) (n : Word) :
    encode (.ofCallCc cc n) = [op (0xC4 + 8 * cc.code), loByte n, hiByte n] := by
  cases cc <;> rfl

theorem encode_ofRetCc (cc : Cond) : encode (.ofRetCc cc) = [op (0xC0 + 8 * cc.code)] := by
  cases cc <;> rfl

theorem encode_ofRst (t : Fin 8) : encode (.ofRst t) = [op (0xC7 + 8 * t.val)] := by
  fin_cases t <;> rfl

end Sys2Proof

namespace Sys2Proof.Machine

open Sys2Proof.Stmt

theorem State.cond_eq_holds (s : State) (cc : Cond) : s.cond cc = holds s cc := by
  cases cc with
  | nz | nc => exact Bool.decide_eq_false.symm
  | z | c => exact Bool.decide_eq_true.symm

/-- A byte over 128 moves pc by `off - 256 + 2`, the statements' `off - 254` raised by 0x10000 to a natural number; the byte
128 itself is not negative (43_control.md R210, D18). -/
theorem jrTarget_eq_jrTo (pc : Word) (off : Byte) : jrTarget pc off = jrTo pc off := by
  apply BitVec.eq_of_toNat_eq
  by_cases hback : off.toNat > 128
  · rw [jrTarget, jrTo, jrDisp, if_pos hback, if_pos hback, BitVec.toNat_ofInt, BitVec.toNat_ofNat]
    omega
  · rw [jrTarget, jrTo, jrDisp, if_neg hback, if_neg hback, BitVec.toNat_ofInt, BitVec.toNat_ofNat]
    omega

theorem restartTarget_eq_ofNat (t : Fin 8) : restartTarget t = BitVec.ofNat 16 (8 * t.val) := by
  rw [restartTarget, Nat.mul_comm]

/-- A conditional operation by its two laws, the condition in the words of the statements. -/
theorem eq_next_ite_holds {cc : Cond} {s taken untaken : State} {r : Result} (htaken : s.cond cc = true → r = .next taken)
    (huntaken : s.cond cc = false → r = .next untaken) : r = .next (if holds s cc then taken else untaken) := by
  rw [← State.cond_eq_holds]
  by_cases hcond : s.cond cc = true
  · rw [if_pos hcond, htaken hcond]
  · rw [if_neg hcond, huntaken (Bool.eq_false_of_not_eq_true hcond)]

theorem jumpRelative_eq_ok (e : Byte) (s : State) : jumpRelative e s = .next (ok s (jrTo s.pc e) 3) := by
  rw [jumpRelative_eq, jrTarget_eq_jrTo, State.retire_eq_ok]

theorem jumpRelativeIf_eq_ok (cc : Cond) (e : Byte) (s : State) : jumpRelativeIf cc e s =
    .next (if holds s cc then ok s (jrTo s.pc e) 3 else ok s (s.pc + 2) 2) := by
  rw [← jrTarget_eq_jrTo]
  exact eq_next_ite_holds (jumpRelativeIf_taken cc e s) (jumpRelativeIf_untaken cc e s)

theorem jumpAbsoluteIf_eq_ok (cc : Cond) (n : Word) (s : State) : jumpAbsoluteIf cc n s =
    .next (if holds s cc then ok s n 4 else ok s (s.pc + 3) 3) :=
  eq_next_ite_holds (jumpAbsoluteIf_taken cc n s) (jumpAbsoluteIf_untaken cc n s)

theorem jumpToHl_eq_ok (s : State) : jumpToHl s = .next (ok s (hl s) 1) := by
  rw [jumpToHl_eq, State.hl_eq_hl, State.retire_eq_ok]

theorem callAddr_eq_ok (n : Word) (s : State) : callAddr n s = .next (ok (pushed s (s.pc + 3)) n 6) := by
  rw [callAddr_eq, State.push16_eq_pushed, State.retire_eq_ok]

theorem callAddrIf_eq_ok (cc : Cond) (n : Word) (s : State) : callAddrIf cc n s =
    .next (if holds s cc then ok (pushed s (s.pc + 3)) n 6 else ok s (s.pc + 3) 3) := by
  rw [← State.push16_eq_pushed]
  exact eq_next_ite_holds (callAddrIf_taken cc n s) (callAddrIf_untaken cc n s)

theorem returnAlways_eq_ok (s : State) : returnAlways s = .next (ok (popped s) (popValue s) 4) := by
  rw [returnAlways, State.pop16_fst_eq_popValue, State.pop16_snd_eq_popped, State.retire_eq_ok]

theorem returnIf_eq_ok (cc : Cond) (s : State) : returnIf cc s =
    .next (if holds s cc then ok (popped s) (popValue s) s.config.retCcTakenCost else ok s (s.pc + 1) 2) := by
  rw [← State.pop16_fst_eq_popValue]
  exact eq_next_ite_holds (returnIf_taken cc s) (returnIf_untaken cc s)

theorem returnEnabling_eq_ok (s : State) :
    returnEnabling s = .next (ok { popped s with ime := true } (popValue s) 4) := by
  rw [← State.pop16_fst_eq_popValue]
  exact returnEnabling_eq s

theorem restart_eq_ok (t : Fin 8) (s : State) :
    restart t s = .next (ok (pushed s (s.pc + 1)) (BitVec.ofNat 16 (8 * t.val)) 4) := by
  rw [restart_eq, State.push16_eq_pushed, restartTarget_eq_ofNat, State.retire_eq_ok]

end Sys2Proof.Machine
end

section
/-! PROOFS. The statements about control transfer (43_control.md). -/

namespace Sys2Proof.Machine

open Sys2Proof.Stmt

/-- Settles O34: the displacement is negative just for a byte over 128. -/
theorem relativeJumpForms : Obligations.RelativeJumpForms := fun cc e s =>
  ⟨⟨coded_of_encode rfl, jumpRelative_eq_ok e s⟩,
    ⟨coded_of_encode (encode_ofJrCc cc e), (exec_ofJrCc cc e s).trans (jumpRelativeIf_eq_ok cc e s)⟩⟩

/-- Settles O35, by the one operation of the four conditions. -/
theorem absoluteJumpForms : Obligations.AbsoluteJumpForms := fun cc n s =>
  ⟨⟨coded_word_of_encode rfl, jumpAbsolute_eq n s⟩,
    ⟨coded_word_of_encode (encode_ofJpCc cc n), (exec_ofJpCc cc n s).trans (jumpAbsoluteIf_eq_ok cc n s)⟩,
    ⟨coded_of_encode rfl, jumpToHl_eq_ok s⟩⟩

/-- Settles O36: a call is a push of the address after it, made only where the condition holds. -/
theorem callForms : Obligations.CallForms := fun cc n s =>
  ⟨⟨coded_word_of_encode rfl, callAddr_eq_ok n s⟩,
    ⟨coded_word_of_encode (encode_ofCallCc cc n), (exec_ofCallCc cc n s).trans (callAddrIf_eq_ok cc n s)⟩⟩

/-- Settles O37: the three returns share one pop, which an untaken ret cc does not make. -/
theorem returnForms : Obligations.ReturnForms := fun cc s =>
  ⟨⟨coded_of_encode rfl, returnAlways_eq_ok s⟩,
    ⟨coded_of_encode (encode_ofRetCc cc), (exec_ofRetCc cc s).trans (returnIf_eq_ok cc s)⟩,
    ⟨coded_of_encode rfl, returnEnabling_eq_ok s⟩⟩

/-- Settles O38: the eight codes are one operation, a call of the address 8*t. -/
theorem restartForms : Obligations.RestartForms := fun t s =>
  ⟨coded_of_encode (encode_ofRst t), (exec_ofRst t s).trans (restart_eq_ok t s)⟩

end Sys2Proof.Machine
end

section
/-! PROOFS. The system instructions (44_system.md R240 to R244): the shared operations in the words of the statements, and the run
that halt or stop ends with its first step (30_encoding.md R95). -/

namespace Sys2Proof.Machine

open Sys2Proof.Stmt

theorem State.retireAs_eq_ends (s : State) (o : StepOutcome) (target : Word) (cost : Nat) :
    s.retireAs o target cost = ends s o target cost := rfl

theorem noOperation_eq_ok (s : State) : noOperation s = .next (ok s (s.pc + 1) 1) := by
  rw [noOperation_eq, State.retire_eq_ok]

theorem setInterruptEnable_eq_ok (v : Bool) (s : State) :
    setInterruptEnable v s = .next (ok { s with ime := v } (s.pc + 1) 1) := by
  rw [setInterruptEnable_eq, State.retire_eq_ok]

theorem haltCore_eq_ends (s : State) : haltCore s = .next (ends s .halted (s.pc + 1) 1) := by
  rw [haltCore_eq, State.retireAs_eq_ends]

theorem stopCore_eq_ends (s : State) : stopCore s = .next (ends s .stopped (s.pc + 2) 1) := by
  rw [stopCore_eq, State.retireAs_eq_ends]

theorem State.fetched_of_p1 {s : State} {i : Instr} (h : primary (s.peek s.pc) = .p1 i) : s.fetched = i := by
  rw [State.fetched, decode3, h, Entry.instr]

theorem State.fetched_of_p2 {s : State} {k : Byte → Instr} (h : primary (s.peek s.pc) = .p2 k) :
    s.fetched = k ((s.afterRead s.pc).peek (s.pc + 1)) := by
  rw [State.fetched, decode3, h, Entry.instr]

theorem State.fetch_snd_pc (s : State) : s.fetch.2.pc = s.pc := by
  rw [State.fetch_snd]

/-- The outcome, pc and budget an instruction ends in are those its step ends in: the fetch changes neither pc nor budget. -/
theorem step_of_exec_ends {s : State} {i : Instr} {o : StepOutcome} {len : Word} {cost : Nat} (hfetched : s.fetched = i)
    (hexec : ∀ u : State, exec i u = .next (ends u o (u.pc + len) cost)) :
    ∃ t, step s = .next t ∧ t.outcome = o ∧ t.pc = s.pc + len ∧ t.cycles = s.cycles - cost := by
  refine ⟨ends s.beginStep.fetch.2 o (s.beginStep.fetch.2.pc + len) cost, ?_, rfl, ?_, ?_⟩
  · rw [step_eq_exec, hfetched, hexec]
  · exact congrArg (· + len) (State.fetch_snd_pc s.beginStep)
  · exact congrArg (· - (cost : Int)) (State.fetch_snd_cycles s.beginStep)

/-- With a budget left, what ends the loop in its first step is the result of the run, whatever its number of steps. -/
theorem run_eq_of_first_step {pc : Word} {b : Int} {s : State} {r : RunResult} (hpos : 0 < b)
    (h : ∀ n : Nat, runSteps (n + 1) { s with pc := pc, cycles := b } = r) : run pc b s = r :=
  runSteps_eq_of_succ (s := { s with pc := pc, cycles := b }) hpos (fun n _ => h n) _ (Int.self_le_toNat b)

theorem run_of_peek_halt {s : State} {b : Int} (hpos : 0 < b) (hopcode : s.peek s.pc = 0x76) :
    (run s.pc b s).ending = .halted ∧ (run s.pc b s).pc = s.pc + 1 ∧ (run s.pc b s).cycles = b - 1 := by
  have hfetched : { s with cycles := b }.fetched = .halt := State.fetched_of_p1 (congrArg primary hopcode)
  obtain ⟨t, hstep, hout, hpc, hcycles⟩ := step_of_exec_ends hfetched haltCore_eq_ends
  rw [run_eq_of_first_step hpos (runSteps_halted hpos hstep hout)]
  exact ⟨rfl, hpc, hcycles⟩

theorem run_of_peek_stop {s : State} {b : Int} (hpos : 0 < b) (hopcode : s.peek s.pc = 0x10) :
    (run s.pc b s).ending = .stopped ∧ (run s.pc b s).pc = s.pc + 2 ∧ (run s.pc b s).cycles = b - 1 := by
  have hfetched : { s with cycles := b }.fetched = .stop _ := State.fetched_of_p2 (congrArg primary hopcode)
  obtain ⟨t, hstep, hout, hpc, hcycles⟩ := step_of_exec_ends hfetched stopCore_eq_ends
  rw [run_eq_of_first_step hpos (runSteps_stopped hpos hstep hout)]
  exact ⟨rfl, hpc, hcycles⟩

end Sys2Proof.Machine
end

section
/-! PROOFS. The statements about the system instructions (44_system.md). -/

namespace Sys2Proof.Machine

open Sys2Proof.Stmt

/-- Settles O39: di and ei are one operation, the write of IME. -/
theorem nopAndInterruptEnableForms : Obligations.NopAndInterruptEnableForms := fun s =>
  ⟨⟨coded_of_encode rfl, noOperation_eq_ok s⟩, ⟨coded_of_encode rfl, setInterruptEnable_eq_ok false s⟩,
    ⟨coded_of_encode rfl, setInterruptEnable_eq_ok true s⟩⟩

/-- Settles O40: the run's first step fetches halt or stop, and a step with its outcome ends the run. -/
theorem haltAndStopForms : Obligations.HaltAndStopForms := fun _ s _ =>
  ⟨⟨coded_of_encode rfl, haltCore_eq_ends s⟩, ⟨coded_of_encode rfl, stopCore_eq_ends s⟩, run_of_peek_halt, run_of_peek_stop⟩

end Sys2Proof.Machine
end

section
/-! PROOFS. The rotates, shifts and single bits of a byte (45_rotate_cb.md R264, R281, R283, R285) as the numbers the statements
write: a shift moves the byte by one place and fills the freed place with a bit, and a mask picks one bit out of the byte. -/

namespace Sys2Proof.Machine

open Sys2Proof.Stmt

theorem toNat_getLsbD_eq_bitOf (v : Byte) (n : Fin 8) : (v.getLsbD n.val).toNat = bitOf v n :=
  Nat.toNat_testBit v.toNat n.val

theorem bitOf_seven (v : Byte) : bitOf v 7 = v.toNat / 128 := by
  have hv := v.isLt
  exact Nat.mod_eq_of_lt (a := v.toNat / 128) (by omega)

theorem bitOf_zero (v : Byte) : bitOf v 0 = v.toNat % 2 := congrArg (· % 2) (Nat.div_one v.toNat)

theorem toNat_getLsbD_seven (v : Byte) : (v.getLsbD 7).toNat = v.toNat / 128 :=
  (toNat_getLsbD_eq_bitOf v 7).trans (bitOf_seven v)

theorem toNat_getLsbD_zero (v : Byte) : (v.getLsbD 0).toNat = v.toNat % 2 :=
  (toNat_getLsbD_eq_bitOf v 0).trans (bitOf_zero v)

theorem getLsbD_seven_eq_decide (v : Byte) : v.getLsbD 7 = decide (v.toNat / 128 = 1) := by
  rw [← bitOf_seven]
  exact getLsbD_eq_bitOf v 7

theorem getLsbD_zero_eq_decide (v : Byte) : v.getLsbD 0 = decide (v.toNat % 2 = 1) := by
  rw [← bitOf_zero]
  exact getLsbD_eq_bitOf v 0

theorem toNat_bitByte (c : Bool) : (bitByte c).toNat = c.toNat := by
  cases c <;> rfl

/-- One place to the left, modulo 0x100, a bit coming in at the low end: it meets a 0 there, so the or is a sum. -/
theorem shiftLeft_or_bitByte_eq_op (v : Byte) (c : Bool) :
    v <<< 1 ||| bitByte c = op ((2 * v.toNat + c.toNat) % 256) := by
  have hc := c.toNat_le
  have hor := Nat.two_pow_add_eq_or_of_lt (i := 1) (b := c.toNat) (by omega) (v.toNat % 128)
  have heven : v.toNat <<< 1 % 2 ^ 8 = 2 ^ 1 * (v.toNat % 128) := by omega
  apply BitVec.eq_of_toNat_eq
  rw [BitVec.toNat_or, BitVec.toNat_shiftLeft, toNat_bitByte, heven, ← hor, op, BitVec.toNat_ofNat]
  omega

/-- One place to the right, a bit coming in at the high end: it meets a 0 there, so the or is a sum. -/
theorem shiftRight_or_bitByte_eq_op (v : Byte) (c : Bool) :
    v >>> 1 ||| bitByte c <<< 7 = op (v.toNat / 2 + 128 * c.toNat) := by
  have hv := v.isLt
  have hc := c.toNat_le
  have hor := Nat.two_pow_add_eq_or_of_lt (i := 7) (b := v.toNat / 2) (by omega) c.toNat
  have hhigh : c.toNat <<< 7 % 2 ^ 8 = 2 ^ 7 * c.toNat := by omega
  apply BitVec.eq_of_toNat_eq
  rw [BitVec.toNat_or, BitVec.toNat_ushiftRight, BitVec.toNat_shiftLeft, toNat_bitByte, hhigh, Nat.shiftRight_one,
    Nat.or_comm, ← hor, op, BitVec.toNat_ofNat]
  omega

theorem shiftLeft_one_eq_op (v : Byte) : v <<< 1 = op (2 * v.toNat % 256) :=
  BitVec.or_zero.symm.trans (shiftLeft_or_bitByte_eq_op v false)

theorem shiftRight_one_eq_op (v : Byte) : v >>> 1 = op (v.toNat / 2) :=
  BitVec.or_zero.symm.trans (shiftRight_or_bitByte_eq_op v false)

theorem swapNibbles_eq_op (v : Byte) : (v &&& 0x0F) <<< 4 ||| v >>> 4 = op (v.toNat % 16 * 16 + v.toNat / 16) := by
  have hv := v.isLt
  have hor := Nat.two_pow_add_eq_or_of_lt (i := 4) (b := v.toNat / 16) (by omega) (v.toNat % 16)
  have hlow : (v &&& 0x0F).toNat = v.toNat % 16 := Nat.and_two_pow_sub_one_eq_mod v.toNat 4
  have hhigh : (v.toNat % 16) <<< 4 % 2 ^ 8 = 2 ^ 4 * (v.toNat % 16) := by omega
  apply BitVec.eq_of_toNat_eq
  rw [BitVec.toNat_or, BitVec.toNat_ushiftRight, BitVec.toNat_shiftLeft, hlow, hhigh, Nat.shiftRight_eq_div_pow, ← hor, op,
    BitVec.toNat_ofNat]
  omega

theorem and_highMask_eq_bitByte (v : Byte) : v &&& (0x80 : Byte) = bitByte (v.getLsbD 7) <<< 7 := by
  rw [show v &&& (0x80 : Byte) = if v.getLsbD 7 then 0x80 else 0 from BitVec.and_twoPow v 7]
  cases v.getLsbD 7 <;> rfl

/-- The table of R264 in numbers. Every operation but swap shifts by one place; sla and srl bring in a 0, sra bit 7 again. -/
theorem shift8_eq (o : ShiftOp) (v : Byte) (cin : Bool) : shift8 o v cin =
    (op (shifted o v.toNat cin.toNat).1, (shifted o v.toNat cin.toNat).2) := by
  cases o with
  | rlc => rw [shift8, shifted, shiftLeft_or_bitByte_eq_op, toNat_getLsbD_seven, getLsbD_seven_eq_decide]
  | rrc => rw [shift8, shifted, shiftRight_or_bitByte_eq_op, toNat_getLsbD_zero, getLsbD_zero_eq_decide]
  | rl => rw [shift8, shifted, shiftLeft_or_bitByte_eq_op, getLsbD_seven_eq_decide]
  | rr => rw [shift8, shifted, shiftRight_or_bitByte_eq_op, getLsbD_zero_eq_decide]
  | sla => rw [shift8, shifted, shiftLeft_one_eq_op, getLsbD_seven_eq_decide]
  | sra => rw [shift8, shifted, and_highMask_eq_bitByte, shiftRight_or_bitByte_eq_op, toNat_getLsbD_seven, getLsbD_zero_eq_decide]
  | swap => rw [shift8, shifted, swapNibbles_eq_op]
  | srl => rw [shift8, shifted, shiftRight_one_eq_op, getLsbD_zero_eq_decide]

theorem shifted_fst_lt (o : ShiftOp) (v : Byte) (cin : Bool) : (shifted o v.toNat cin.toNat).1 < 0x100 := by
  have hv := v.isLt
  have hcin := cin.toNat_le
  cases o <;> simp only [shifted] <;> omega

/-- ZF of a shift: the number in the table is a byte's already, so nothing is lost where it is narrowed. -/
theorem isZero_shifted (o : ShiftOp) (v : Byte) (cin : Bool) :
    isZero (op (shifted o v.toNat cin.toNat).1) = decide ((shifted o v.toNat cin.toNat).1 = 0) := by
  rw [op, isZero_ofNat, Nat.mod_eq_of_lt (shifted_fst_lt o v cin)]

theorem toNat_and_bitMask (v : Byte) (n : Fin 8) : (v &&& bitMask n).toNat = bitOf v n * 2 ^ n.val := by
  have hmask : (bitMask n).toNat = 2 ^ n.val := by
    rw [bitMask, ← BitVec.twoPow_eq, BitVec.toNat_twoPow]
    exact Nat.mod_eq_of_lt (Nat.pow_lt_pow_right Nat.one_lt_two n.isLt)
  rw [BitVec.toNat_and, hmask, Nat.and_two_pow, Nat.toNat_testBit]
  rfl

theorem bitOf_not (v : Byte) (n : Fin 8) : bitOf (~~~v) n = 1 - bitOf v n := by
  rw [← toNat_getLsbD_eq_bitOf, ← toNat_getLsbD_eq_bitOf, BitVec.getLsbD_not, decide_eq_true n.isLt]
  cases v.getLsbD n.val <;> rfl

/-- The complement of the tested bit (45_rotate_cb.md R281). -/
theorem not_getLsbD_eq_bitOf (v : Byte) (n : Fin 8) : (!v.getLsbD n.val) = decide (bitOf v n = 0) := by
  rw [← toNat_getLsbD_eq_bitOf]
  cases v.getLsbD n.val <;> rfl

/-- What a mask leaves of a byte is the byte less what the mask picks: the two parts share no bit. -/
theorem and_not_eq_sub (v m : Byte) : v &&& ~~~m = v - (v &&& m) := by
  have hdisjoint : (v &&& ~~~m) &&& (v &&& m) = 0#8 := by
    ext i hi
    cases hm : m[i] <;> simp [hm]
  have hjoin : (v &&& ~~~m) ||| (v &&& m) = v := by
    ext i hi
    cases hm : m[i] <;> simp [hm]
  rw [eq_comm, BitVec.sub_eq_iff_eq_add, BitVec.add_eq_or_of_and_eq_zero _ _ hdisjoint, hjoin]

/-- A mask adds to a byte what the byte lacks of it. -/
theorem or_eq_add_not_and (v m : Byte) : v ||| m = v + (~~~v &&& m) := by
  have hdisjoint : v &&& (~~~v &&& m) = 0#8 := by
    ext i hi
    cases hv : v[i] <;> simp [hv]
  have hjoin : v ||| (~~~v &&& m) = v ||| m := by
    ext i hi
    cases hv : v[i] <;> simp [hv]
  rw [BitVec.add_eq_or_of_and_eq_zero _ _ hdisjoint, hjoin]

theorem clearBit_eq_cleared (n : Fin 8) (v : Byte) : clearBit n v = cleared v n := by
  have hle : v &&& bitMask n ≤ v := Nat.and_le_left
  have hnot : 0xFF - bitMask n = ~~~bitMask n := BitVec.allOnes_sub_eq_not (bitMask n)
  apply BitVec.eq_of_toNat_eq
  rw [clearBit, hnot, and_not_eq_sub, BitVec.toNat_sub_of_le hle, toNat_and_bitMask, cleared, BitVec.toNat_ofNat]
  exact (Nat.mod_eq_of_lt (Nat.lt_of_le_of_lt (Nat.sub_le _ _) v.isLt)).symm

theorem putBit_eq_raised (n : Fin 8) (v : Byte) : putBit n v = raised v n := by
  apply BitVec.eq_of_toNat_eq
  rw [putBit, or_eq_add_not_and, BitVec.toNat_add, toNat_and_bitMask, bitOf_not, raised, BitVec.toNat_ofNat]

end Sys2Proof.Machine
end

section
/-! PROOFS. Each shared rotate, shift and bit operation in the words of the statements. -/

namespace Sys2Proof.Machine

open Sys2Proof.Stmt

theorem rotateAcc_eq_ok (o : ShiftOp) (s : State) : rotateAcc o s =
    .next (ok (flagged s (shifted o s.a.toNat s.cf.toNat).1 false (shifted o s.a.toNat s.cf.toNat).2) (s.pc + 1) 1) := by
  rw [rotateAcc_eq, shift8_eq, State.retire_eq_ok]
  rfl

theorem shiftR8_eq_ok (o : ShiftOp) (r : R8) (s : State) :
    let res := shifted o (s.getR8 r).toNat s.cf.toNat
    shiftR8 o r s = .next (ok { s.setR8 r (op res.1) with zf := decide (res.1 = 0), cf := res.2 } (s.pc + 2) 2) := by
  rw [shiftR8_eq, shift8_eq, isZero_shifted, State.retire_eq_ok]

theorem shiftMem_eq_ok (o : ShiftOp) (s : State) :
    let res := shifted o (s.peek (hl s)).toNat s.cf.toNat
    shiftMem o s = .next (ok { stored (saw s [.read (hl s)]) (hl s) (op res.1) with
      zf := decide (res.1 = 0), cf := res.2 } (s.pc + 2) 4) := by
  rw [shiftMem_eq, State.hl_eq_hl, shift8_eq, isZero_shifted, State.readByte_snd_eq_saw, State.writeByte_eq_stored,
    State.retire_eq_ok]

theorem bitR8_eq_ok (n : Fin 8) (r : R8) (s : State) : bitR8 n r s =
    .next (ok { s with zf := decide (bitOf (s.getR8 r) n = 0) } (s.pc + 2) 2) := by
  rw [bitR8_eq, not_getLsbD_eq_bitOf, State.retire_eq_ok]

theorem bitMem_eq_ok (n : Fin 8) (s : State) : bitMem n s =
    .next (ok { saw s [.read (hl s)] with zf := decide (bitOf (s.peek (hl s)) n = 0) } (s.pc + 2) 3) := by
  rw [bitMem_eq, State.hl_eq_hl, not_getLsbD_eq_bitOf, State.readByte_snd_eq_saw, State.retire_eq_ok]

theorem resR8_eq_ok (n : Fin 8) (r : R8) (s : State) : resR8 n r s =
    .next (ok (s.setR8 r (cleared (s.getR8 r) n)) (s.pc + 2) 2) := by
  rw [resR8_eq, clearBit_eq_cleared, State.retire_eq_ok]

theorem resMem_eq_ok (n : Fin 8) (s : State) : resMem n s =
    .next (ok (stored (saw s [.read (hl s)]) (hl s) (cleared (s.peek (hl s)) n)) (s.pc + 2) 4) := by
  rw [resMem_eq, State.hl_eq_hl, clearBit_eq_cleared, State.readByte_snd_eq_saw, State.writeByte_eq_stored,
    State.retire_eq_ok]

theorem setR8Bit_eq_ok (n : Fin 8) (r : R8) (s : State) : setR8Bit n r s =
    .next (ok (s.setR8 r (raised (s.getR8 r) n)) (s.pc + 2) 2) := by
  rw [setR8Bit_eq, putBit_eq_raised, State.retire_eq_ok]

theorem setMem_eq_ok (n : Fin 8) (s : State) : setMem n s =
    .next (ok (stored (saw s [.read (hl s)]) (hl s) (raised (s.peek (hl s)) n)) (s.pc + 2) 4) := by
  rw [setMem_eq, State.hl_eq_hl, putBit_eq_raised, State.readByte_snd_eq_saw, State.writeByte_eq_stored,
    State.retire_eq_ok]

end Sys2Proof.Machine
end

section
/-! PROOFS. The statements about rotates, shifts and bit operations (45_rotate_cb.md). -/

namespace Sys2Proof.Machine

open Sys2Proof.Stmt

/-- Settles O41: the four are one operation, four rows of the table of R264 with ZF cleared. -/
theorem accumulatorRotateForms : Obligations.AccumulatorRotateForms := fun s =>
  ⟨⟨coded_of_encode rfl, rotateAcc_eq_ok .rlc s⟩, ⟨coded_of_encode rfl, rotateAcc_eq_ok .rrc s⟩,
    ⟨coded_of_encode rfl, rotateAcc_eq_ok .rl s⟩, ⟨coded_of_encode rfl, rotateAcc_eq_ok .rr s⟩⟩

/-- Settles O42: the eight operations differ in their row of the table of R264 alone. -/
theorem registerShiftForms : Obligations.RegisterShiftForms := fun o r s =>
  ⟨coded_of_encode (encode_ofShiftR8 o r), (exec_ofShiftR8 o r s).trans (shiftR8_eq_ok o r s)⟩

/-- Settles O43: the shift of a register, of the byte read at HL and written back there. -/
theorem memoryShiftForms : Obligations.MemoryShiftForms := fun o s =>
  ⟨coded_of_encode (encode_ofShiftAtHl o), (exec_ofShiftAtHl o s).trans (shiftMem_eq_ok o s)⟩

/-- Settles O44: both forms write ZF alone, the complement of bit n. -/
theorem bitTestForms : Obligations.BitTestForms := fun n r s =>
  ⟨coded_of_encode (encode_ofBitR8 n r), (exec_ofBitR8 n r s).trans (bitR8_eq_ok n r s),
    coded_of_encode (encode_ofBitAtHl n), (exec_ofBitAtHl n s).trans (bitMem_eq_ok n s)⟩

/-- Settles O45: the mask takes from the byte what it has of bit n (res), or adds what it lacks of it (set). -/
theorem bitWriteForms : Obligations.BitWriteForms := fun n r s =>
  ⟨⟨coded_of_encode (encode_ofResR8 n r), (exec_ofResR8 n r s).trans (resR8_eq_ok n r s)⟩,
    ⟨coded_of_encode (encode_ofResAtHl n), (exec_ofResAtHl n s).trans (resMem_eq_ok n s)⟩,
    ⟨coded_of_encode (encode_ofSetR8 n r), (exec_ofSetR8 n r s).trans (setR8Bit_eq_ok n r s)⟩,
    ⟨coded_of_encode (encode_ofSetAtHl n), (exec_ofSetAtHl n s).trans (setMem_eq_ok n s)⟩⟩

end Sys2Proof.Machine
end

section
/-! PROOFS. The outcome of a step that completes (60_exceptions.md R300): halt and stop alone name one, and end the step as it says. -/

namespace Sys2Proof.Machine

open Sys2Proof.Stmt

/-- The outcome an operation ends its step with (60_exceptions.md R300), if it does not fault. -/
def Shape.outcome : Shape → StepOutcome
  | .haltCore => .halted
  | .stopCore => .stopped
  | _ => .ok

theorem Shape.run_outcome (p : Shape) (s : State) : Ensures (fun t => t.outcome = p.outcome) (p.run s) := by
  cases p with
  | raiseUnimplemented => exact .fault
  | jumpRelativeIf | jumpAbsoluteIf | callAddrIf | returnIf => exact .ite (.next rfl) (.next rfl)
  | _ => exact .next rfl

theorem exec_outcome {i : Instr} {s t : State} (h : exec i s = .next t) : t.outcome = (shapeOf i).outcome :=
  Shape.run_outcome _ s t (exec_eq_shape i s ▸ h)

theorem outcome_shapeOf_eq_halted {i : Instr} : (shapeOf i).outcome = .halted ↔ i = .halt := by
  cases i with
  | halt => exact iff_of_true rfl rfl
  | _ => exact iff_of_false nofun nofun

theorem outcome_shapeOf_eq_stopped {i : Instr} : (shapeOf i).outcome = .stopped ↔ ∃ x, i = .stop x := by
  cases i with
  | stop x => exact iff_of_true rfl ⟨x, rfl⟩
  | _ => exact iff_of_false nofun nofun

/-- The core has no other way to end in Halted than the end of halt (44_system.md R241). -/
theorem eq_ends_of_halted {i : Instr} {s t : State} (h : exec i s = .next t) (hout : t.outcome = .halted) :
    t = ends s .halted (s.pc + 1) 1 := by
  obtain rfl := outcome_shapeOf_eq_halted.mp (exec_outcome h ▸ hout)
  exact Host.Outcome.next.inj (h.symm.trans (haltCore_eq_ends s))

/-- The core has no other way to end in Stopped than the end of stop (44_system.md R242). -/
theorem eq_ends_of_stopped {i : Instr} {s t : State} (h : exec i s = .next t) (hout : t.outcome = .stopped) :
    t = ends s .stopped (s.pc + 2) 1 := by
  obtain ⟨x, rfl⟩ := outcome_shapeOf_eq_stopped.mp (exec_outcome h ▸ hout)
  exact Host.Outcome.next.inj (h.symm.trans (stopCore_eq_ends s))

end Sys2Proof.Machine
end

section
/-! PROOFS. The injection of an interrupt (60_exceptions.md R305) and the return from its handler (43_control.md R220): the caller's
entry leaves the cells and SP of a push of the pc, so reti pops what any pop after that push pops. -/

namespace Sys2Proof.Machine

open Sys2Proof.Stmt

theorem State.injectInterrupt_of_disabled {s : State} (h : s.ime = false) (handler : Word) :
    s.injectInterrupt handler = none :=
  if_neg (Bool.eq_false_iff.mp h)

theorem State.injectInterrupt_of_enabled {s : State} (h : s.ime = true) (handler : Word) :
    s.injectInterrupt handler = some ((s.enterHandler handler).pokeIme false) :=
  if_pos h

theorem State.enterHandler_eq_callerDid (s : State) (handler : Word) : s.enterHandler handler =
    { callerDid s [.write (s.sp - 2) (lo s.pc), .write (s.sp - 2 + 1) (hi s.pc)] with sp := s.sp - 2, pc := handler } := by
  rw [State.enterHandler, loByte_eq_lo, hiByte_eq_hi]
  rfl

section
variable {s : State} (hram : s.accessors = .plainRam) (hwf : s.mem.wf = true) (handler : Word)
include hram

theorem State.peek_enterHandler_other {a : Word} (h : a ∉ pushSlots s) : (s.enterHandler handler).peek a = s.peek a := by
  obtain ⟨hlo, hhi⟩ : a ≠ s.sp - 2 ∧ a ≠ s.sp - 2 + 1 := by simpa [pushSlots] using h
  rw [State.peek_enterHandler, State.peek_push16_other s.pc hram hlo hhi]

include hwf

theorem State.peek_enterHandler_lo : (s.enterHandler handler).peek (s.sp - 2) = lo s.pc := by
  rw [State.peek_enterHandler, State.peek_push16_lo s.pc hram hwf, loByte_eq_lo]

theorem State.peek_enterHandler_hi : (s.enterHandler handler).peek (s.sp - 2 + 1) = hi s.pc := by
  rw [State.peek_enterHandler, State.peek_push16_hi s.pc hram hwf, hiByte_eq_hi]

/-- The pop that reti makes sees of the entry, whatever IME is, only what it sees of a push. -/
theorem State.pop16_fst_pokeIme_enterHandler (v : Bool) : ((s.enterHandler handler).pokeIme v).pop16.1 = s.pc :=
  State.pop16_fst_retire_push16 s.pc hram hwf handler 0

end

theorem exec_reti (s : State) : exec .reti s = .next ({ s.pop16.2 with ime := true }.retire s.pop16.1 4) := rfl

end Sys2Proof.Machine
end

section
/-! PROOFS. The statements about outcomes and the caller's interrupts (60_exceptions.md). -/

namespace Sys2Proof.Machine

open Sys2Proof.Stmt

/-- Settles O8: an instruction is on the list of the twelve, or its operation fixes the outcome of its next state. -/
theorem outcomesOfInstructions : Obligations.OutcomesOfInstructions := by
  intro i s
  by_cases hi : i ∈ faulting.map Prod.snd
  · obtain ⟨p, hp, rfl⟩ := List.mem_map.mp hi
    exact .inl ⟨p, hp, rfl, exec_of_mem_faulting hp s⟩
  · obtain ⟨t, ht⟩ := exec_next hi s
    refine .inr ⟨hi, t, ht, ?_, ?_, eq_ends_of_halted ht, eq_ends_of_stopped ht⟩
    · rw [exec_outcome ht, outcome_shapeOf_eq_halted]
    · rw [exec_outcome ht, outcome_shapeOf_eq_stopped]

/-- Settles O15: the entry is a push of the pc by the caller; reti's pop reads that pc back and raises SP by 2 again. -/
theorem callerEntersAndRetiReturns : Obligations.CallerEntersAndRetiReturns := by
  intro s handler
  refine ⟨fun hime => State.injectInterrupt_of_disabled hime handler, fun hime =>
    ⟨_, State.injectInterrupt_of_enabled hime handler, ?_, fun hram hwf => ?_⟩⟩
  · rw [State.enterHandler_eq_callerDid]
    rfl
  · refine ⟨State.peek_enterHandler_lo hram hwf handler, State.peek_enterHandler_hi hram hwf handler,
      fun a => State.peek_enterHandler_other hram handler, _, exec_reti _, ?_, ?_, rfl⟩
    · exact State.pop16_fst_pokeIme_enterHandler hram hwf handler false
    · exact BitVec.sub_add_cancel s.sp 2

end Sys2Proof.Machine
end

section
/-! PROOFS. The statements about creation and the costs of instructions (70_reset_and_hazards.md). -/

namespace Sys2Proof.Machine

/-- Settles O53: the cost charged is 1 to 6 units, so the budget after it is within 6 of the one before. -/
theorem costsAreOneToSix : Obligations.CostsAreOneToSix := by
  intro i s t hconfig hexec
  obtain ⟨hmost, hleast⟩ := (exec_charged hconfig hexec).bounds
  refine ⟨?_, ?_, fun hlow => ?_⟩ <;> omega

/-- Settles O12: creation writes each item from its parameter. -/
theorem creationTakesItsParameters : Obligations.CreationTakesItsParameters :=
  fun _ _ _ _ => ⟨rfl, rfl, rfl, rfl, rfl, rfl, rfl, rfl, rfl, rfl, rfl, rfl, rfl, rfl, rfl, rfl⟩

end Sys2Proof.Machine
end
